-- ==== Sys2Proof/Word.lean ====
section
/-! DEFINITION. The word types of the SM83 and the names its opcode fields select. Fixed widths: 00_scope.md
rule R7. Operand types: 30_encoding.md rule R84; their field codes are in Decode.lean. -/

namespace Sys2Proof

/-- A `u8` (00_scope.md R11). -/
abbrev Byte := BitVec 8

/-- A `u16` (00_scope.md R11): an address, a register pair, SP, PC. -/
abbrev Word := BitVec 16

/-- The two opcode spaces: the primary table, and the one reached through the prefix byte (30_encoding.md R95). -/
inductive Space where
  | primary | extended
  deriving DecidableEq, Repr

/-- Operand type `Reg8`. `F` is no operand (10_state.md R22). -/
inductive Reg8 where
  | b | c | d | e | h | l | a
  deriving DecidableEq, Repr

/-- Operand type `R16`: a pair or SP. -/
inductive R16 where
  | bc | de | hl | sp
  deriving DecidableEq, Repr

/-- Operand type `R16Stk`: a pair that `PUSH` and `POP` name by a field. -/
inductive R16Stk where
  | bc | de | hl
  deriving DecidableEq, Repr

/-- Operand type `R16Ptr`: a pair used as a pointer by the accumulator loads. -/
inductive R16Ptr where
  | bc | de
  deriving DecidableEq, Repr

/-- Operand type `Cond` (10_state.md R27). -/
inductive Cond where
  | nz | z | nc | c
  deriving DecidableEq, Repr

/-- Operand type `Bit3`: a bit number. -/
inductive Bit3 where
  | b0 | b1 | b2 | b3 | b4 | b5 | b6 | b7
  deriving DecidableEq, Repr

/-- Operand type `Rst`: a restart vector, named by its address. -/
inductive Rst where
  | v00 | v08 | v10 | v18 | v20 | v28 | v30 | v38
  deriving DecidableEq, Repr

end Sys2Proof
end

