-- ==== Sys2Proof/Config.lean ====
section
/-! DEFINITION. What is fixed for one machine: the launch parameters of 00_scope.md rule R8 with their defaults. Those a
step reads are `Config`, a field of State. Those only LoadRom reads are `Launch` of Machine/Wrapper.lean, an argument of
LoadRom. No instruction has an undefined result (93_implementation_defined.md section 1). The parameters that are
functions of states (a Bus other than the default, REG_EVENTS) are free values and stand where their types do, in
Machine/Bus.lean and Machine/Events.lean. -/

namespace Sys2Proof

/-- The console variants (`MODEL`, 00_scope.md R8): those of the default table of `RESET_REGS` (70_reset_and_hazards.md
R361), and any other, by a number (DMG0, AGB, CGB in compatibility mode). -/
inductive ConsoleModel where
  | dmg | mgb | sgb | sgb2 | cgb
  | other (n : Nat)
  deriving DecidableEq, Repr

/-- The memory abstraction `Bus` (20_memory.md R50): the default flat array, or any other, by a number (log entry 2). -/
inductive BusKind where
  | flat
  | other (n : Nat)
  deriving DecidableEq, Repr

/-- The launch parameters of 00_scope.md R8 that a step reads. They never change while the machine runs. -/
structure Config where
  /-- `MODEL`: selects the register values after reset. -/
  model : ConsoleModel
  /-- `Bus`: what memory reads and writes do. -/
  bus : BusKind
  /-- `IRQ_DISPATCH`: whether a step services interrupts. -/
  irqDispatch : Bool
  /-- `HALT_BUG`: whether the HALT bug of 47_system.md R302 is modelled. -/
  haltBug : Bool
  deriving DecidableEq, Repr

/-- The defaults of 00_scope.md R8. -/
def Config.default : Config := { model := .dmg, bus := .flat, irqDispatch := true, haltBug := true }

/-- What a memory byte that nothing has written reads as. DESIGN CHOICE (log entry 1, unsafe): the spec leaves `mem0`
to the launch (20_memory.md R63); its own examples are zero elsewhere (95_test_vectors.md section 3). -/
def Config.unlistedByte : Byte := 0x00

/-- The eight 8-bit registers, as `RESET_REGS` gives them. -/
structure RegFile where
  a : Byte
  f : Byte
  b : Byte
  c : Byte
  d : Byte
  e : Byte
  h : Byte
  l : Byte
  deriving DecidableEq, Repr, Inhabited

/-- The register values after reset of a console variant that the default table leaves out (70_reset_and_hazards.md
R361), with the header checksum byte. A FREE VALUE (log entry 3). -/
opaque Config.otherResetRegs (n : Nat) (checksum : Byte) : RegFile

end Sys2Proof
end

