-- ==== Sys2Proof/Machine/State.lean ====
section
/-! DEFINITION. The state of the machine, as plain data, the reasons a step stops, and the state after reset. The core
state is 10_state.md rule R37's record; the Bus state sits beside it; the step's outputs, the environment's
pending actions and the launch parameters are the model's own fields (log entries 4 to 6). -/

namespace Sys2Proof.Machine

/-- The bytes of the 16-bit address space (20_memory.md R51): those that differ from `Config.unlistedByte`, addresses
strictly rising. -/
abbrev Memory := List Host.Cell

/-- The canonical form: addresses strictly rising, all inside the 16-bit space, no entry equal to an unlisted byte. -/
abbrev Memory.wf (m : Memory) : Prop :=
  m.Pairwise (fun x y => x.1 < y.1) ∧ ∀ x ∈ m, x.1 < 65536 ∧ x.2 ≠ Config.unlistedByte

/-- The Bus state `m` (20_memory.md R50). The default flat array is its bytes and nothing else. -/
structure BusState where
  mem : Memory
  /-- What another Bus keeps besides the bytes (bank registers, device state): the flat Bus neither reads nor writes it
  (log entry 2). -/
  dev : List Nat
  deriving DecidableEq, Repr, Inhabited

/-- The run state (10_state.md R34). -/
inductive Mode where
  | running | halted | stopped
  deriving DecidableEq, Repr

/-- The five interrupt sources, lowest IE/IF bit first (60_exceptions.md R321). -/
inductive Irq where
  | vblank | lcdStat | timer | serial | joypad
  deriving DecidableEq, Repr

/-- A MemoryWrite event (20_memory.md R57). -/
structure MemoryWrite where
  address : Word
  old : Byte
  new : Byte
  deriving DecidableEq, Repr

/-- The success markers of a step (30_encoding.md R105). The one error is `Fault.unimplementedOpcode`. -/
inductive StepResult where
  | executed
  | woken
  | idle
  | dispatched (k : Irq)
  deriving DecidableEq, Repr

/-- What the environment does between two steps (60_exceptions.md R331): it sets the IF bits of `irq`, and, where
`wake` holds, sets a Stopped core running. -/
structure EnvAction where
  irq : BitVec 5
  wake : Bool
  deriving DecidableEq, Repr

/-- Why a step stops with a fault. -/
inductive Fault where
  /-- Decode found no handle for the opcode byte `op` of space `space` (60_exceptions.md R320). Raised by `step` before
  any instruction executes; no field of the core state changes, so on the flat Bus the same step faults again. Safe: the
  hardware locks up on these bytes. -/
  | unimplementedOpcode (space : Space) (op : Byte)
  deriving DecidableEq, Repr

/-- Why an instruction has no meaning. -/
inductive Refusal where
  /-- The instruction of that mnemonic is not modelled. Raised by an arm of `exec` only; safe. No arm raises it. -/
  | notModelled (mnemonic : String)
  deriving DecidableEq, Repr

/-- The state of the machine. -/
structure State where
  /-- The accumulator (10_state.md R20). -/
  a : Byte
  /-- The flags: Z, N, H, C in bits 7..4, bits 3..0 always 0 (10_state.md R24, R25). -/
  f : Byte
  b : Byte
  c : Byte
  d : Byte
  e : Byte
  h : Byte
  l : Byte
  /-- The stack pointer (10_state.md R23). -/
  sp : Word
  /-- The program counter (10_state.md R28). -/
  pc : Word
  /-- The interrupt master enable (10_state.md R32). -/
  ime : Bool
  /-- `EI` has executed and IME is not set yet (10_state.md R33). -/
  eiPending : Bool
  /-- The next opcode fetch does not advance PC past the first byte (10_state.md R35). -/
  haltBug : Bool
  /-- The run state (10_state.md R34). -/
  mode : Mode
  /-- The Bus state, IE and IF among its bytes (10_state.md R36, 20_memory.md R50). -/
  m : BusState
  /-- Output of the last step: its MemoryWrite events in order (30_encoding.md R106). -/
  writes : List MemoryWrite
  /-- Output of the last step: its success marker, none before the first step (30_encoding.md R105). -/
  result : Option StepResult
  /-- The environment's actions still to come, one per step, the next first (60_exceptions.md R331). -/
  env : List EnvAction
  /-- The launch parameters (00_scope.md R8). -/
  cfg : Config
  deriving DecidableEq, Repr

/-- The state after reset with the default parameters and a `mem0` that lists nothing (70_reset_and_hazards.md R360,
R361: MODEL = DMG, header checksum byte zero). `State.loadRom` resets with any model and image. -/
def State.reset : State where
  a := 0x01
  f := 0x80
  b := 0x00
  c := 0x13
  d := 0x00
  e := 0xD8
  h := 0x01
  l := 0x4D
  sp := 0xFFFE
  pc := 0x0100
  ime := false
  eiPending := false
  haltBug := false
  mode := .running
  m := { mem := [], dev := [] }
  writes := []
  result := none
  env := []
  cfg := Config.default

end Sys2Proof.Machine
end

