-- ==== Sys2Proof/Machine/Bus.lean ====
section
/-! DEFINITION. The memory behind the core (20_memory.md rules R50 to R64): bytes in their canonical form, the default
flat Bus, any other Bus, and transactions in order. -/

namespace Sys2Proof.Machine

/-! ## Bytes -/

/-- The byte at an address. -/
def Memory.read (m : Memory) (a : Word) : Byte :=
  match m.find? (fun x => x.1 == a.toNat) with
  | some x => x.2
  | none => Config.unlistedByte

/-- Put an entry before the first one with a higher address. -/
def Memory.insert (a : Nat) (v : Byte) : Memory → Memory
  | [] => [(a, v)]
  | x :: m => if a < x.1 then (a, v) :: x :: m else x :: Memory.insert a v m

/-- Store a byte, keeping the canonical form: an entry that would equal an unlisted byte is removed. -/
def Memory.write (m : Memory) (a : Word) (v : Byte) : Memory :=
  let rest := m.filter (fun x => x.1 != a.toNat)
  if v == Config.unlistedByte then rest else Memory.insert a.toNat v rest

/-- The canonical form of any list of bytes: the first entry of an address counts, and none outside the 16-bit space. -/
def Memory.canonical : Memory → Memory
  | [] => []
  | x :: m => if x.1 < 65536 then Memory.write (Memory.canonical m) (BitVec.ofNat 16 x.1) x.2 else Memory.canonical m

/-! ## Buses -/

/-- The memory abstraction (20_memory.md R50), a parameter of the model. It is no part of State, which names one by
`Config.bus`. -/
structure Bus where
  /-- `Bus.read(m, a) -> (u8, m')`: it may change the bus state. -/
  read : BusState → Word → Byte × BusState
  /-- `Bus.write(m, a, v) -> m'`. -/
  write : BusState → Word → Byte → BusState
  /-- `Bus.peek(m, a) -> u8`: without side effects. -/
  peek : BusState → Word → Byte
  deriving Inhabited

/-- One bus transaction: every one moves one byte (20_memory.md R58). -/
inductive Access where
  | read (a : Word)
  | write (a : Word) (v : Byte)
  deriving DecidableEq, Repr

/-- The default Bus (20_memory.md R50): `read` returns the stored byte and changes nothing, `write` stores the byte, and
`peek` reads as `read` does. -/
def Bus.flat : Bus where
  read m a := (m.mem.read a, m)
  write m a v := { m with mem := m.mem.write a v }
  peek m a := m.mem.read a

/-- The same Bus, its bytes put into their canonical form after every transaction. -/
def Bus.canonical (B : Bus) : Bus where
  read m a := ((B.read m a).1, { (B.read m a).2 with mem := (B.read m a).2.mem.canonical })
  write m a v := { B.write m a v with mem := (B.write m a v).mem.canonical }
  peek := B.peek

/-- Bus number `n` of those that are not the default: a FREE VALUE, so that what is proved of it holds of every Bus, and a
claim about one Bus takes `Config.otherBus n = …` as a hypothesis (20_memory.md R50, R59; log entry 2). -/
opaque Config.otherBus (n : Nat) : Bus

/-- The Bus of a configuration. -/
def busOf : BusKind → Bus
  | .flat => Bus.flat
  | .other n => (Config.otherBus n).canonical

/-- The bus state after transactions, in order (20_memory.md R64). -/
def Bus.after (B : Bus) : List Access → BusState → BusState
  | [], m => m
  | .read a :: l, m => B.after l (B.read m a).2
  | .write a v :: l, m => B.after l (B.write m a v)

end Sys2Proof.Machine
end

