-- ==== Sys2Proof/Syntax.lean ====
section
/-! DEFINITION. The instructions of the SM83: one constructor for each of the 500 rows of
spec/opcode_table.json, in the order of the catalog of 30_encoding.md rule R98. A constructor's name is the
row's spelling with its operands run together: `AtHL` is `[HL]`, `AtHLInc` is `[HL+]`, `SPE8` is `SP+e8`.
The appended operands are the arguments: `n8` a byte, `n16` a word, `e8` the 16-bit sign extension of its
byte (rule R91). -/

namespace Sys2Proof

/-- An instruction: one opcode-table row with its appended operands (30_encoding.md R98, R109, R110; the set is
closed, 00_scope.md R19). -/
inductive Instr where
  -- NOP (R300)
  | nop
  -- LD r16, n16 (R160)
  | ldBCN16 (n : Word) | ldDEN16 (n : Word) | ldHLN16 (n : Word) | ldSPN16 (n : Word)
  -- LD [r16ptr], A (R136)
  | ldAtBCA | ldAtDEA
  -- LD [HL+], A (R141)
  | ldAtHLIncA
  -- LD [HL-], A (R142)
  | ldAtHLDecA
  -- INC r16 (R221)
  | incBC | incDE | incHL | incSP
  -- INC r8 (R205)
  | incB | incC | incD | incE | incH | incL | incA
  -- INC [HL] (R206)
  | incAtHL
  -- DEC r8 (R207)
  | decB | decC | decD | decE | decH | decL | decA
  -- DEC [HL] (R208)
  | decAtHL
  -- LD r8, n8 (R131)
  | ldBN8 (n : Byte) | ldCN8 (n : Byte) | ldDN8 (n : Byte) | ldEN8 (n : Byte) | ldHN8 (n : Byte) | ldLN8 (n : Byte)
  | ldAN8 (n : Byte)
  -- LD [HL], n8 (R134)
  | ldAtHLN8 (n : Byte)
  -- RLCA (R241)
  | rlca
  -- LD [n16], SP (R161)
  | ldAtN16SP (n : Word)
  -- ADD HL, r16 (R220)
  | addHLBC | addHLDE | addHLHL | addHLSP
  -- LD A, [r16ptr] (R135)
  | ldAAtBC | ldAAtDE
  -- LD A, [HL+] (R139)
  | ldAAtHLInc
  -- LD A, [HL-] (R140)
  | ldAAtHLDec
  -- DEC r16 (R222)
  | decBC | decDE | decHL | decSP
  -- RRCA (R242)
  | rrca
  -- STOP (R303)
  | stop (n : Byte)
  -- RLA (R243)
  | rla
  -- JR e8 (R273)
  | jrE8 (e : Word)
  -- RRA (R244)
  | rra
  -- JR cc, e8 (R274)
  | jrNZE8 (e : Word) | jrZE8 (e : Word) | jrNCE8 (e : Word) | jrCE8 (e : Word)
  -- DAA (R209)
  | daa
  -- CPL (R210)
  | cpl
  -- SCF (R211)
  | scf
  -- CCF (R212)
  | ccf
  -- LD r8, r8 (R130)
  | ldBB | ldBC | ldBD | ldBE | ldBH | ldBL | ldBA | ldCB | ldCC | ldCD | ldCE | ldCH | ldCL | ldCA | ldDB | ldDC
  | ldDD | ldDE | ldDH | ldDL | ldDA | ldEB | ldEC | ldED | ldEE | ldEH | ldEL | ldEA | ldHB | ldHC | ldHD | ldHE
  | ldHH | ldHL | ldHA | ldLB | ldLC | ldLD | ldLE | ldLH | ldLL | ldLA | ldAB | ldAC | ldAD | ldAE | ldAH | ldAL
  | ldAA
  -- LD r8, [HL] (R132)
  | ldBAtHL | ldCAtHL | ldDAtHL | ldEAtHL | ldHAtHL | ldLAtHL | ldAAtHL
  -- LD [HL], r8 (R133)
  | ldAtHLB | ldAtHLC | ldAtHLD | ldAtHLE | ldAtHLH | ldAtHLL | ldAtHLA
  -- HALT (R302)
  | halt
  -- ADD A, r8 (R181)
  | addAB | addAC | addAD | addAE | addAH | addAL | addAA
  -- ADD A, [HL] (R182)
  | addAAtHL
  -- ADD A, n8 (R183)
  | addAN8 (n : Byte)
  -- ADC A, r8 (R184)
  | adcAB | adcAC | adcAD | adcAE | adcAH | adcAL | adcAA
  -- ADC A, [HL] (R185)
  | adcAAtHL
  -- ADC A, n8 (R186)
  | adcAN8 (n : Byte)
  -- SUB A, r8 (R187)
  | subAB | subAC | subAD | subAE | subAH | subAL | subAA
  -- SUB A, [HL] (R188)
  | subAAtHL
  -- SUB A, n8 (R189)
  | subAN8 (n : Byte)
  -- SBC A, r8 (R190)
  | sbcAB | sbcAC | sbcAD | sbcAE | sbcAH | sbcAL | sbcAA
  -- SBC A, [HL] (R191)
  | sbcAAtHL
  -- SBC A, n8 (R192)
  | sbcAN8 (n : Byte)
  -- AND A, r8 (R193)
  | andAB | andAC | andAD | andAE | andAH | andAL | andAA
  -- AND A, [HL] (R194)
  | andAAtHL
  -- AND A, n8 (R195)
  | andAN8 (n : Byte)
  -- XOR A, r8 (R196)
  | xorAB | xorAC | xorAD | xorAE | xorAH | xorAL | xorAA
  -- XOR A, [HL] (R197)
  | xorAAtHL
  -- XOR A, n8 (R198)
  | xorAN8 (n : Byte)
  -- OR A, r8 (R199)
  | orAB | orAC | orAD | orAE | orAH | orAL | orAA
  -- OR A, [HL] (R200)
  | orAAtHL
  -- OR A, n8 (R201)
  | orAN8 (n : Byte)
  -- CP A, r8 (R202)
  | cpAB | cpAC | cpAD | cpAE | cpAH | cpAL | cpAA
  -- CP A, [HL] (R203)
  | cpAAtHL
  -- CP A, n8 (R204)
  | cpAN8 (n : Byte)
  -- RET cc (R278)
  | retNZ | retZ | retNC | retC
  -- POP r16stk (R166)
  | popBC | popDE | popHL
  -- POP AF (R167)
  | popAF
  -- JP cc, n16 (R271)
  | jpNZN16 (n : Word) | jpZN16 (n : Word) | jpNCN16 (n : Word) | jpCN16 (n : Word)
  -- JP n16 (R270)
  | jpN16 (n : Word)
  -- CALL cc, n16 (R276)
  | callNZN16 (n : Word) | callZN16 (n : Word) | callNCN16 (n : Word) | callCN16 (n : Word)
  -- PUSH r16stk (R164)
  | pushBC | pushDE | pushHL
  -- PUSH AF (R165)
  | pushAF
  -- RST vec (R280)
  | rst00 | rst08 | rst10 | rst18 | rst20 | rst28 | rst30 | rst38
  -- RET (R277)
  | ret
  -- RETI (R279)
  | reti
  -- CALL n16 (R275)
  | callN16 (n : Word)
  -- LDH [n8], A (R143)
  | ldhAtN8A (n : Byte)
  -- LDH [C], A (R145)
  | ldhAtCA
  -- ADD SP, e8 (R223)
  | addSPE8 (e : Word)
  -- JP HL (R272)
  | jpHL
  -- LD [n16], A (R138)
  | ldAtN16A (n : Word)
  -- LDH A, [n8] (R144)
  | ldhAAtN8 (n : Byte)
  -- LDH A, [C] (R146)
  | ldhAAtC
  -- DI (R301)
  | di
  -- LD HL, SP+e8 (R163)
  | ldHLSPE8 (e : Word)
  -- LD SP, HL (R162)
  | ldSPHL
  -- LD A, [n16] (R137)
  | ldAAtN16 (n : Word)
  -- EI (R304)
  | ei
  -- RLC r8 (R245)
  | rlcB | rlcC | rlcD | rlcE | rlcH | rlcL | rlcA
  -- RLC [HL] (R246)
  | rlcAtHL
  -- RRC r8 (R247)
  | rrcB | rrcC | rrcD | rrcE | rrcH | rrcL | rrcA
  -- RRC [HL] (R248)
  | rrcAtHL
  -- RL r8 (R249)
  | rlB | rlC | rlD | rlE | rlH | rlL | rlA
  -- RL [HL] (R250)
  | rlAtHL
  -- RR r8 (R251)
  | rrB | rrC | rrD | rrE | rrH | rrL | rrA
  -- RR [HL] (R252)
  | rrAtHL
  -- SLA r8 (R253)
  | slaB | slaC | slaD | slaE | slaH | slaL | slaA
  -- SLA [HL] (R254)
  | slaAtHL
  -- SRA r8 (R255)
  | sraB | sraC | sraD | sraE | sraH | sraL | sraA
  -- SRA [HL] (R256)
  | sraAtHL
  -- SWAP r8 (R257)
  | swapB | swapC | swapD | swapE | swapH | swapL | swapA
  -- SWAP [HL] (R258)
  | swapAtHL
  -- SRL r8 (R259)
  | srlB | srlC | srlD | srlE | srlH | srlL | srlA
  -- SRL [HL] (R260)
  | srlAtHL
  -- BIT u3, r8 (R261)
  | bit0B | bit0C | bit0D | bit0E | bit0H | bit0L | bit0A | bit1B | bit1C | bit1D | bit1E | bit1H | bit1L | bit1A
  | bit2B | bit2C | bit2D | bit2E | bit2H | bit2L | bit2A | bit3B | bit3C | bit3D | bit3E | bit3H | bit3L | bit3A
  | bit4B | bit4C | bit4D | bit4E | bit4H | bit4L | bit4A | bit5B | bit5C | bit5D | bit5E | bit5H | bit5L | bit5A
  | bit6B | bit6C | bit6D | bit6E | bit6H | bit6L | bit6A | bit7B | bit7C | bit7D | bit7E | bit7H | bit7L | bit7A
  -- BIT u3, [HL] (R262)
  | bit0AtHL | bit1AtHL | bit2AtHL | bit3AtHL | bit4AtHL | bit5AtHL | bit6AtHL | bit7AtHL
  -- RES u3, r8 (R263)
  | res0B | res0C | res0D | res0E | res0H | res0L | res0A | res1B | res1C | res1D | res1E | res1H | res1L | res1A
  | res2B | res2C | res2D | res2E | res2H | res2L | res2A | res3B | res3C | res3D | res3E | res3H | res3L | res3A
  | res4B | res4C | res4D | res4E | res4H | res4L | res4A | res5B | res5C | res5D | res5E | res5H | res5L | res5A
  | res6B | res6C | res6D | res6E | res6H | res6L | res6A | res7B | res7C | res7D | res7E | res7H | res7L | res7A
  -- RES u3, [HL] (R264)
  | res0AtHL | res1AtHL | res2AtHL | res3AtHL | res4AtHL | res5AtHL | res6AtHL | res7AtHL
  -- SET u3, r8 (R265)
  | set0B | set0C | set0D | set0E | set0H | set0L | set0A | set1B | set1C | set1D | set1E | set1H | set1L | set1A
  | set2B | set2C | set2D | set2E | set2H | set2L | set2A | set3B | set3C | set3D | set3E | set3H | set3L | set3A
  | set4B | set4C | set4D | set4E | set4H | set4L | set4A | set5B | set5C | set5D | set5E | set5H | set5L | set5A
  | set6B | set6C | set6D | set6E | set6H | set6L | set6A | set7B | set7C | set7D | set7E | set7H | set7L | set7A
  -- SET u3, [HL] (R266)
  | set0AtHL | set1AtHL | set2AtHL | set3AtHL | set4AtHL | set5AtHL | set6AtHL | set7AtHL
  deriving DecidableEq, Repr

end Sys2Proof
end

