-- ==== Sys2Proof/WellFormed.lean ====
section
/-! DEFINITION. Well-formed instructions. The one operand kind with a value no byte encodes is `e8`: it is the
16-bit sign extension of one byte (30_encoding.md rules R90 and R91), so a word that is not such an extension is no
`e8`. Every `n8` and `n16` value is legal. -/

namespace Sys2Proof

/-- `e` is the sign extension of its own low byte (30_encoding.md R91: -128..+127). -/
def isE8 (e : Word) : Bool := (e.setWidth 8).signExtend 16 == e

/-- The instruction is one that decode can produce. -/
def Instr.wf : Instr → Bool
  -- the e8 forms
  | .jrE8 e => isE8 e
  | .jrNZE8 e => isE8 e
  | .jrZE8 e => isE8 e
  | .jrNCE8 e => isE8 e
  | .jrCE8 e => isE8 e
  | .addSPE8 e => isE8 e
  | .ldHLSPE8 e => isE8 e
  -- every other row: no appended operand, or one whose every value is legal
  | .nop | .ldBCN16 _ | .ldDEN16 _ | .ldHLN16 _ | .ldSPN16 _ | .ldAtBCA | .ldAtDEA | .ldAtHLIncA | .ldAtHLDecA
  | .incBC | .incDE | .incHL | .incSP | .incB | .incC | .incD | .incE | .incH | .incL | .incA | .incAtHL
  | .decB | .decC | .decD | .decE | .decH | .decL | .decA | .decAtHL | .ldBN8 _ | .ldCN8 _ | .ldDN8 _
  | .ldEN8 _ | .ldHN8 _ | .ldLN8 _ | .ldAN8 _ | .ldAtHLN8 _ | .rlca | .ldAtN16SP _ | .addHLBC | .addHLDE
  | .addHLHL | .addHLSP | .ldAAtBC | .ldAAtDE | .ldAAtHLInc | .ldAAtHLDec | .decBC | .decDE | .decHL | .decSP
  | .rrca | .stop _ | .rla | .rra | .daa | .cpl | .scf | .ccf | .ldBB | .ldBC | .ldBD | .ldBE | .ldBH | .ldBL
  | .ldBA | .ldCB | .ldCC | .ldCD | .ldCE | .ldCH | .ldCL | .ldCA | .ldDB | .ldDC | .ldDD | .ldDE | .ldDH
  | .ldDL | .ldDA | .ldEB | .ldEC | .ldED | .ldEE | .ldEH | .ldEL | .ldEA | .ldHB | .ldHC | .ldHD | .ldHE
  | .ldHH | .ldHL | .ldHA | .ldLB | .ldLC | .ldLD | .ldLE | .ldLH | .ldLL | .ldLA | .ldAB | .ldAC | .ldAD
  | .ldAE | .ldAH | .ldAL | .ldAA | .ldBAtHL | .ldCAtHL | .ldDAtHL | .ldEAtHL | .ldHAtHL | .ldLAtHL | .ldAAtHL
  | .ldAtHLB | .ldAtHLC | .ldAtHLD | .ldAtHLE | .ldAtHLH | .ldAtHLL | .ldAtHLA | .halt | .addAB | .addAC
  | .addAD | .addAE | .addAH | .addAL | .addAA | .addAAtHL | .addAN8 _ | .adcAB | .adcAC | .adcAD | .adcAE
  | .adcAH | .adcAL | .adcAA | .adcAAtHL | .adcAN8 _ | .subAB | .subAC | .subAD | .subAE | .subAH | .subAL
  | .subAA | .subAAtHL | .subAN8 _ | .sbcAB | .sbcAC | .sbcAD | .sbcAE | .sbcAH | .sbcAL | .sbcAA | .sbcAAtHL
  | .sbcAN8 _ | .andAB | .andAC | .andAD | .andAE | .andAH | .andAL | .andAA | .andAAtHL | .andAN8 _ | .xorAB
  | .xorAC | .xorAD | .xorAE | .xorAH | .xorAL | .xorAA | .xorAAtHL | .xorAN8 _ | .orAB | .orAC | .orAD | .orAE
  | .orAH | .orAL | .orAA | .orAAtHL | .orAN8 _ | .cpAB | .cpAC | .cpAD | .cpAE | .cpAH | .cpAL | .cpAA
  | .cpAAtHL | .cpAN8 _ | .retNZ | .retZ | .retNC | .retC | .popBC | .popDE | .popHL | .popAF | .jpNZN16 _
  | .jpZN16 _ | .jpNCN16 _ | .jpCN16 _ | .jpN16 _ | .callNZN16 _ | .callZN16 _ | .callNCN16 _ | .callCN16 _
  | .pushBC | .pushDE | .pushHL | .pushAF | .rst00 | .rst08 | .rst10 | .rst18 | .rst20 | .rst28 | .rst30
  | .rst38 | .ret | .reti | .callN16 _ | .ldhAtN8A _ | .ldhAtCA | .jpHL | .ldAtN16A _ | .ldhAAtN8 _ | .ldhAAtC
  | .di | .ldSPHL | .ldAAtN16 _ | .ei | .rlcB | .rlcC | .rlcD | .rlcE | .rlcH | .rlcL | .rlcA | .rlcAtHL
  | .rrcB | .rrcC | .rrcD | .rrcE | .rrcH | .rrcL | .rrcA | .rrcAtHL | .rlB | .rlC | .rlD | .rlE | .rlH | .rlL
  | .rlA | .rlAtHL | .rrB | .rrC | .rrD | .rrE | .rrH | .rrL | .rrA | .rrAtHL | .slaB | .slaC | .slaD | .slaE
  | .slaH | .slaL | .slaA | .slaAtHL | .sraB | .sraC | .sraD | .sraE | .sraH | .sraL | .sraA | .sraAtHL
  | .swapB | .swapC | .swapD | .swapE | .swapH | .swapL | .swapA | .swapAtHL | .srlB | .srlC | .srlD | .srlE
  | .srlH | .srlL | .srlA | .srlAtHL | .bit0B | .bit0C | .bit0D | .bit0E | .bit0H | .bit0L | .bit0A | .bit1B
  | .bit1C | .bit1D | .bit1E | .bit1H | .bit1L | .bit1A | .bit2B | .bit2C | .bit2D | .bit2E | .bit2H | .bit2L
  | .bit2A | .bit3B | .bit3C | .bit3D | .bit3E | .bit3H | .bit3L | .bit3A | .bit4B | .bit4C | .bit4D | .bit4E
  | .bit4H | .bit4L | .bit4A | .bit5B | .bit5C | .bit5D | .bit5E | .bit5H | .bit5L | .bit5A | .bit6B | .bit6C
  | .bit6D | .bit6E | .bit6H | .bit6L | .bit6A | .bit7B | .bit7C | .bit7D | .bit7E | .bit7H | .bit7L | .bit7A
  | .bit0AtHL | .bit1AtHL | .bit2AtHL | .bit3AtHL | .bit4AtHL | .bit5AtHL | .bit6AtHL | .bit7AtHL | .res0B
  | .res0C | .res0D | .res0E | .res0H | .res0L | .res0A | .res1B | .res1C | .res1D | .res1E | .res1H | .res1L
  | .res1A | .res2B | .res2C | .res2D | .res2E | .res2H | .res2L | .res2A | .res3B | .res3C | .res3D | .res3E
  | .res3H | .res3L | .res3A | .res4B | .res4C | .res4D | .res4E | .res4H | .res4L | .res4A | .res5B | .res5C
  | .res5D | .res5E | .res5H | .res5L | .res5A | .res6B | .res6C | .res6D | .res6E | .res6H | .res6L | .res6A
  | .res7B | .res7C | .res7D | .res7E | .res7H | .res7L | .res7A | .res0AtHL | .res1AtHL | .res2AtHL
  | .res3AtHL | .res4AtHL | .res5AtHL | .res6AtHL | .res7AtHL | .set0B | .set0C | .set0D | .set0E | .set0H
  | .set0L | .set0A | .set1B | .set1C | .set1D | .set1E | .set1H | .set1L | .set1A | .set2B | .set2C | .set2D
  | .set2E | .set2H | .set2L | .set2A | .set3B | .set3C | .set3D | .set3E | .set3H | .set3L | .set3A | .set4B
  | .set4C | .set4D | .set4E | .set4H | .set4L | .set4A | .set5B | .set5C | .set5D | .set5E | .set5H | .set5L
  | .set5A | .set6B | .set6C | .set6D | .set6E | .set6H | .set6L | .set6A | .set7B | .set7C | .set7D | .set7E
  | .set7H | .set7L | .set7A | .set0AtHL | .set1AtHL | .set2AtHL | .set3AtHL | .set4AtHL | .set5AtHL
  | .set6AtHL | .set7AtHL => true

end Sys2Proof
end

