-- ==== Sys2Proof/Decode.lean ====
section
/-! DEFINITION. The decoder and the encoder. The decoder is the spec's: the catalog of 103 definitions
(30_encoding.md rules R82 to R85, R98), each with an 8-bit template and one ordered list of parameters; a raw byte is
looked up in the table of its space (R95, R97), its fields are extracted (R88, R89) and its operands are read (R90).
The encoder (R92) is written from the opcode of each row of spec/opcode_table.json, not from the templates, so that
"decode of encode is the identity" compares two separate tables. -/

namespace Sys2Proof

/-! ## Field codes of the operand types (30_encoding.md R84; `none` where the code names no variant) -/

/-- The variant of `Reg8` with field value `n`. Code 6 is the `[HL]` forms' and names no register. -/
def Reg8.ofCode : Nat → Option Reg8
  | 0 => some .b
  | 1 => some .c
  | 2 => some .d
  | 3 => some .e
  | 4 => some .h
  | 5 => some .l
  | 7 => some .a
  | _ => none

/-- The variant of `R16` with field value `n`. -/
def R16.ofCode : Nat → Option R16
  | 0 => some .bc
  | 1 => some .de
  | 2 => some .hl
  | 3 => some .sp
  | _ => none

/-- The variant of `R16Stk` with field value `n`. Code 3 is the `AF` forms'. -/
def R16Stk.ofCode : Nat → Option R16Stk
  | 0 => some .bc
  | 1 => some .de
  | 2 => some .hl
  | _ => none

/-- The variant of `R16Ptr` with field value `n`. -/
def R16Ptr.ofCode : Nat → Option R16Ptr
  | 0 => some .bc
  | 1 => some .de
  | _ => none

/-- The variant of `Cond` with field value `n`. The codes are 10_state.md R27's. -/
def Cond.ofCode : Nat → Option Cond
  | 0 => some .nz
  | 1 => some .z
  | 2 => some .nc
  | 3 => some .c
  | _ => none

/-- The variant of `Bit3` with field value `n`. -/
def Bit3.ofCode : Nat → Option Bit3
  | 0 => some .b0
  | 1 => some .b1
  | 2 => some .b2
  | 3 => some .b3
  | 4 => some .b4
  | 5 => some .b5
  | 6 => some .b6
  | 7 => some .b7
  | _ => none

/-- The variant of `Rst` with field value `n`. -/
def Rst.ofCode : Nat → Option Rst
  | 0 => some .v00
  | 1 => some .v08
  | 2 => some .v10
  | 3 => some .v18
  | 4 => some .v20
  | 5 => some .v28
  | 6 => some .v30
  | 7 => some .v38
  | _ => none

/-! ## The instances of each definition

A definition with Inner fields stands for several rows: these functions give the row for each value of the fields
("opcode instance", 00_scope.md R16). A definition without Inner fields is its one constructor. -/

/-- `LD r16, n16` (R160). -/
def Form.ldR16N16 : R16 → Word → Instr
  | .bc, n => .ldBCN16 n | .de, n => .ldDEN16 n | .hl, n => .ldHLN16 n | .sp, n => .ldSPN16 n

/-- `LD [r16ptr], A` (R136). -/
def Form.ldAtPtrA : R16Ptr → Instr
  | .bc => .ldAtBCA | .de => .ldAtDEA

/-- `INC r16` (R221). -/
def Form.incR16 : R16 → Instr
  | .bc => .incBC | .de => .incDE | .hl => .incHL | .sp => .incSP

/-- `INC r8` (R205). -/
def Form.incR8 : Reg8 → Instr
  | .b => .incB | .c => .incC | .d => .incD | .e => .incE | .h => .incH | .l => .incL | .a => .incA

/-- `DEC r8` (R207). -/
def Form.decR8 : Reg8 → Instr
  | .b => .decB | .c => .decC | .d => .decD | .e => .decE | .h => .decH | .l => .decL | .a => .decA

/-- `LD r8, n8` (R131). -/
def Form.ldR8N8 : Reg8 → Byte → Instr
  | .b, n => .ldBN8 n | .c, n => .ldCN8 n | .d, n => .ldDN8 n | .e, n => .ldEN8 n | .h, n => .ldHN8 n
  | .l, n => .ldLN8 n | .a, n => .ldAN8 n

/-- `ADD HL, r16` (R220). -/
def Form.addHLR16 : R16 → Instr
  | .bc => .addHLBC | .de => .addHLDE | .hl => .addHLHL | .sp => .addHLSP

/-- `LD A, [r16ptr]` (R135). -/
def Form.ldAAtPtr : R16Ptr → Instr
  | .bc => .ldAAtBC | .de => .ldAAtDE

/-- `DEC r16` (R222). -/
def Form.decR16 : R16 → Instr
  | .bc => .decBC | .de => .decDE | .hl => .decHL | .sp => .decSP

/-- `JR cc, e8` (R274). -/
def Form.jrCcE8 : Cond → Word → Instr
  | .nz, e => .jrNZE8 e | .z, e => .jrZE8 e | .nc, e => .jrNCE8 e | .c, e => .jrCE8 e

/-- `LD r8, r8` (R130). -/
def Form.ldR8R8 : Reg8 → Reg8 → Instr
  | .b, .b => .ldBB | .b, .c => .ldBC | .b, .d => .ldBD | .b, .e => .ldBE | .b, .h => .ldBH | .b, .l => .ldBL
  | .b, .a => .ldBA | .c, .b => .ldCB | .c, .c => .ldCC | .c, .d => .ldCD | .c, .e => .ldCE | .c, .h => .ldCH
  | .c, .l => .ldCL | .c, .a => .ldCA | .d, .b => .ldDB | .d, .c => .ldDC | .d, .d => .ldDD | .d, .e => .ldDE
  | .d, .h => .ldDH | .d, .l => .ldDL | .d, .a => .ldDA | .e, .b => .ldEB | .e, .c => .ldEC | .e, .d => .ldED
  | .e, .e => .ldEE | .e, .h => .ldEH | .e, .l => .ldEL | .e, .a => .ldEA | .h, .b => .ldHB | .h, .c => .ldHC
  | .h, .d => .ldHD | .h, .e => .ldHE | .h, .h => .ldHH | .h, .l => .ldHL | .h, .a => .ldHA | .l, .b => .ldLB
  | .l, .c => .ldLC | .l, .d => .ldLD | .l, .e => .ldLE | .l, .h => .ldLH | .l, .l => .ldLL | .l, .a => .ldLA
  | .a, .b => .ldAB | .a, .c => .ldAC | .a, .d => .ldAD | .a, .e => .ldAE | .a, .h => .ldAH | .a, .l => .ldAL
  | .a, .a => .ldAA

/-- `LD r8, [HL]` (R132). -/
def Form.ldR8AtHL : Reg8 → Instr
  | .b => .ldBAtHL | .c => .ldCAtHL | .d => .ldDAtHL | .e => .ldEAtHL | .h => .ldHAtHL | .l => .ldLAtHL
  | .a => .ldAAtHL

/-- `LD [HL], r8` (R133). -/
def Form.ldAtHLR8 : Reg8 → Instr
  | .b => .ldAtHLB | .c => .ldAtHLC | .d => .ldAtHLD | .e => .ldAtHLE | .h => .ldAtHLH | .l => .ldAtHLL
  | .a => .ldAtHLA

/-- `ADD A, r8` (R181). -/
def Form.addAR8 : Reg8 → Instr
  | .b => .addAB | .c => .addAC | .d => .addAD | .e => .addAE | .h => .addAH | .l => .addAL | .a => .addAA

/-- `ADC A, r8` (R184). -/
def Form.adcAR8 : Reg8 → Instr
  | .b => .adcAB | .c => .adcAC | .d => .adcAD | .e => .adcAE | .h => .adcAH | .l => .adcAL | .a => .adcAA

/-- `SUB A, r8` (R187). -/
def Form.subAR8 : Reg8 → Instr
  | .b => .subAB | .c => .subAC | .d => .subAD | .e => .subAE | .h => .subAH | .l => .subAL | .a => .subAA

/-- `SBC A, r8` (R190). -/
def Form.sbcAR8 : Reg8 → Instr
  | .b => .sbcAB | .c => .sbcAC | .d => .sbcAD | .e => .sbcAE | .h => .sbcAH | .l => .sbcAL | .a => .sbcAA

/-- `AND A, r8` (R193). -/
def Form.andAR8 : Reg8 → Instr
  | .b => .andAB | .c => .andAC | .d => .andAD | .e => .andAE | .h => .andAH | .l => .andAL | .a => .andAA

/-- `XOR A, r8` (R196). -/
def Form.xorAR8 : Reg8 → Instr
  | .b => .xorAB | .c => .xorAC | .d => .xorAD | .e => .xorAE | .h => .xorAH | .l => .xorAL | .a => .xorAA

/-- `OR A, r8` (R199). -/
def Form.orAR8 : Reg8 → Instr
  | .b => .orAB | .c => .orAC | .d => .orAD | .e => .orAE | .h => .orAH | .l => .orAL | .a => .orAA

/-- `CP A, r8` (R202). -/
def Form.cpAR8 : Reg8 → Instr
  | .b => .cpAB | .c => .cpAC | .d => .cpAD | .e => .cpAE | .h => .cpAH | .l => .cpAL | .a => .cpAA

/-- `RET cc` (R278). -/
def Form.retCc : Cond → Instr
  | .nz => .retNZ | .z => .retZ | .nc => .retNC | .c => .retC

/-- `POP r16stk` (R166). -/
def Form.popR16 : R16Stk → Instr
  | .bc => .popBC | .de => .popDE | .hl => .popHL

/-- `JP cc, n16` (R271). -/
def Form.jpCcN16 : Cond → Word → Instr
  | .nz, n => .jpNZN16 n | .z, n => .jpZN16 n | .nc, n => .jpNCN16 n | .c, n => .jpCN16 n

/-- `CALL cc, n16` (R276). -/
def Form.callCcN16 : Cond → Word → Instr
  | .nz, n => .callNZN16 n | .z, n => .callZN16 n | .nc, n => .callNCN16 n | .c, n => .callCN16 n

/-- `PUSH r16stk` (R164). -/
def Form.pushR16 : R16Stk → Instr
  | .bc => .pushBC | .de => .pushDE | .hl => .pushHL

/-- `RST vec` (R280). -/
def Form.rstVec : Rst → Instr
  | .v00 => .rst00 | .v08 => .rst08 | .v10 => .rst10 | .v18 => .rst18 | .v20 => .rst20 | .v28 => .rst28
  | .v30 => .rst30 | .v38 => .rst38

/-- `RLC r8` (R245). -/
def Form.rlcR8 : Reg8 → Instr
  | .b => .rlcB | .c => .rlcC | .d => .rlcD | .e => .rlcE | .h => .rlcH | .l => .rlcL | .a => .rlcA

/-- `RRC r8` (R247). -/
def Form.rrcR8 : Reg8 → Instr
  | .b => .rrcB | .c => .rrcC | .d => .rrcD | .e => .rrcE | .h => .rrcH | .l => .rrcL | .a => .rrcA

/-- `RL r8` (R249). -/
def Form.rlR8 : Reg8 → Instr
  | .b => .rlB | .c => .rlC | .d => .rlD | .e => .rlE | .h => .rlH | .l => .rlL | .a => .rlA

/-- `RR r8` (R251). -/
def Form.rrR8 : Reg8 → Instr
  | .b => .rrB | .c => .rrC | .d => .rrD | .e => .rrE | .h => .rrH | .l => .rrL | .a => .rrA

/-- `SLA r8` (R253). -/
def Form.slaR8 : Reg8 → Instr
  | .b => .slaB | .c => .slaC | .d => .slaD | .e => .slaE | .h => .slaH | .l => .slaL | .a => .slaA

/-- `SRA r8` (R255). -/
def Form.sraR8 : Reg8 → Instr
  | .b => .sraB | .c => .sraC | .d => .sraD | .e => .sraE | .h => .sraH | .l => .sraL | .a => .sraA

/-- `SWAP r8` (R257). -/
def Form.swapR8 : Reg8 → Instr
  | .b => .swapB | .c => .swapC | .d => .swapD | .e => .swapE | .h => .swapH | .l => .swapL | .a => .swapA

/-- `SRL r8` (R259). -/
def Form.srlR8 : Reg8 → Instr
  | .b => .srlB | .c => .srlC | .d => .srlD | .e => .srlE | .h => .srlH | .l => .srlL | .a => .srlA

/-- `BIT u3, r8` (R261). -/
def Form.bitU3R8 : Bit3 → Reg8 → Instr
  | .b0, .b => .bit0B | .b0, .c => .bit0C | .b0, .d => .bit0D | .b0, .e => .bit0E | .b0, .h => .bit0H
  | .b0, .l => .bit0L | .b0, .a => .bit0A | .b1, .b => .bit1B | .b1, .c => .bit1C | .b1, .d => .bit1D
  | .b1, .e => .bit1E | .b1, .h => .bit1H | .b1, .l => .bit1L | .b1, .a => .bit1A | .b2, .b => .bit2B
  | .b2, .c => .bit2C | .b2, .d => .bit2D | .b2, .e => .bit2E | .b2, .h => .bit2H | .b2, .l => .bit2L
  | .b2, .a => .bit2A | .b3, .b => .bit3B | .b3, .c => .bit3C | .b3, .d => .bit3D | .b3, .e => .bit3E
  | .b3, .h => .bit3H | .b3, .l => .bit3L | .b3, .a => .bit3A | .b4, .b => .bit4B | .b4, .c => .bit4C
  | .b4, .d => .bit4D | .b4, .e => .bit4E | .b4, .h => .bit4H | .b4, .l => .bit4L | .b4, .a => .bit4A
  | .b5, .b => .bit5B | .b5, .c => .bit5C | .b5, .d => .bit5D | .b5, .e => .bit5E | .b5, .h => .bit5H
  | .b5, .l => .bit5L | .b5, .a => .bit5A | .b6, .b => .bit6B | .b6, .c => .bit6C | .b6, .d => .bit6D
  | .b6, .e => .bit6E | .b6, .h => .bit6H | .b6, .l => .bit6L | .b6, .a => .bit6A | .b7, .b => .bit7B
  | .b7, .c => .bit7C | .b7, .d => .bit7D | .b7, .e => .bit7E | .b7, .h => .bit7H | .b7, .l => .bit7L
  | .b7, .a => .bit7A

/-- `BIT u3, [HL]` (R262). -/
def Form.bitU3AtHL : Bit3 → Instr
  | .b0 => .bit0AtHL | .b1 => .bit1AtHL | .b2 => .bit2AtHL | .b3 => .bit3AtHL | .b4 => .bit4AtHL | .b5 => .bit5AtHL
  | .b6 => .bit6AtHL | .b7 => .bit7AtHL

/-- `RES u3, r8` (R263). -/
def Form.resU3R8 : Bit3 → Reg8 → Instr
  | .b0, .b => .res0B | .b0, .c => .res0C | .b0, .d => .res0D | .b0, .e => .res0E | .b0, .h => .res0H
  | .b0, .l => .res0L | .b0, .a => .res0A | .b1, .b => .res1B | .b1, .c => .res1C | .b1, .d => .res1D
  | .b1, .e => .res1E | .b1, .h => .res1H | .b1, .l => .res1L | .b1, .a => .res1A | .b2, .b => .res2B
  | .b2, .c => .res2C | .b2, .d => .res2D | .b2, .e => .res2E | .b2, .h => .res2H | .b2, .l => .res2L
  | .b2, .a => .res2A | .b3, .b => .res3B | .b3, .c => .res3C | .b3, .d => .res3D | .b3, .e => .res3E
  | .b3, .h => .res3H | .b3, .l => .res3L | .b3, .a => .res3A | .b4, .b => .res4B | .b4, .c => .res4C
  | .b4, .d => .res4D | .b4, .e => .res4E | .b4, .h => .res4H | .b4, .l => .res4L | .b4, .a => .res4A
  | .b5, .b => .res5B | .b5, .c => .res5C | .b5, .d => .res5D | .b5, .e => .res5E | .b5, .h => .res5H
  | .b5, .l => .res5L | .b5, .a => .res5A | .b6, .b => .res6B | .b6, .c => .res6C | .b6, .d => .res6D
  | .b6, .e => .res6E | .b6, .h => .res6H | .b6, .l => .res6L | .b6, .a => .res6A | .b7, .b => .res7B
  | .b7, .c => .res7C | .b7, .d => .res7D | .b7, .e => .res7E | .b7, .h => .res7H | .b7, .l => .res7L
  | .b7, .a => .res7A

/-- `RES u3, [HL]` (R264). -/
def Form.resU3AtHL : Bit3 → Instr
  | .b0 => .res0AtHL | .b1 => .res1AtHL | .b2 => .res2AtHL | .b3 => .res3AtHL | .b4 => .res4AtHL | .b5 => .res5AtHL
  | .b6 => .res6AtHL | .b7 => .res7AtHL

/-- `SET u3, r8` (R265). -/
def Form.setU3R8 : Bit3 → Reg8 → Instr
  | .b0, .b => .set0B | .b0, .c => .set0C | .b0, .d => .set0D | .b0, .e => .set0E | .b0, .h => .set0H
  | .b0, .l => .set0L | .b0, .a => .set0A | .b1, .b => .set1B | .b1, .c => .set1C | .b1, .d => .set1D
  | .b1, .e => .set1E | .b1, .h => .set1H | .b1, .l => .set1L | .b1, .a => .set1A | .b2, .b => .set2B
  | .b2, .c => .set2C | .b2, .d => .set2D | .b2, .e => .set2E | .b2, .h => .set2H | .b2, .l => .set2L
  | .b2, .a => .set2A | .b3, .b => .set3B | .b3, .c => .set3C | .b3, .d => .set3D | .b3, .e => .set3E
  | .b3, .h => .set3H | .b3, .l => .set3L | .b3, .a => .set3A | .b4, .b => .set4B | .b4, .c => .set4C
  | .b4, .d => .set4D | .b4, .e => .set4E | .b4, .h => .set4H | .b4, .l => .set4L | .b4, .a => .set4A
  | .b5, .b => .set5B | .b5, .c => .set5C | .b5, .d => .set5D | .b5, .e => .set5E | .b5, .h => .set5H
  | .b5, .l => .set5L | .b5, .a => .set5A | .b6, .b => .set6B | .b6, .c => .set6C | .b6, .d => .set6D
  | .b6, .e => .set6E | .b6, .h => .set6H | .b6, .l => .set6L | .b6, .a => .set6A | .b7, .b => .set7B
  | .b7, .c => .set7C | .b7, .d => .set7D | .b7, .e => .set7E | .b7, .h => .set7H | .b7, .l => .set7L
  | .b7, .a => .set7A

/-- `SET u3, [HL]` (R266). -/
def Form.setU3AtHL : Bit3 → Instr
  | .b0 => .set0AtHL | .b1 => .set1AtHL | .b2 => .set2AtHL | .b3 => .set3AtHL | .b4 => .set4AtHL | .b5 => .set5AtHL
  | .b6 => .set6AtHL | .b7 => .set7AtHL

/-! ## Appended operands (30_encoding.md R83, R90, R91) -/

/-- The kinds of Appended parameters. -/
inductive AppendedKind where
  | n8 | e8 | n16
  deriving DecidableEq, Repr

/-- An appended operand as decoded: `e8` is already sign-extended to 16 bits. -/
inductive Operand where
  | n8 (v : Byte) | e8 (v : Word) | n16 (v : Word)
  deriving DecidableEq, Repr

/-- `sext_16` (00_scope.md R11). -/
def sext16 (v : Byte) : Word := v.signExtend 16

/-- `concat(h, l) = h * 256 + l` (00_scope.md R11). -/
def concat (h l : Byte) : Word := h ++ l

/-- `hi(v) = v[15:8]` (00_scope.md R11). -/
def hi (v : Word) : Byte := v.extractLsb' 8 8

/-- `lo(v) = v[7:0]` (00_scope.md R11). -/
def lo (v : Word) : Byte := v.extractLsb' 0 8

/-- The number of trailing bytes (`N` of R83). -/
def AppendedKind.size : AppendedKind → Nat
  | .n8 => 1
  | .e8 => 1
  | .n16 => 2

/-- Read one operand from the byte stream (R90): `n16` is little-endian, `e8` is sign-extended. -/
def AppendedKind.read : AppendedKind → List Byte → Option (Operand × List Byte)
  | .n8, b0 :: rest => some (.n8 b0, rest)
  | .e8, b0 :: rest => some (.e8 (sext16 b0), rest)
  | .n16, b0 :: b1 :: rest => some (.n16 (concat b1 b0), rest)
  | _, _ => none

/-- Read the operands of a definition in declaration order (R90). -/
def readOperands : List AppendedKind → List Byte → Option (List Operand × List Byte)
  | [], bs => some ([], bs)
  | k :: ks, bs =>
    match k.read bs with
    | none => none
    | some (o, rest) =>
      match readOperands ks rest with
      | none => none
      | some (os, rest') => some (o :: os, rest')

/-- Serialize one operand (R92). -/
def Operand.bytes : Operand → List Byte
  | .n8 v => [v]
  | .e8 v => [lo v]
  | .n16 v => [lo v, hi v]

/-! ## Definitions (30_encoding.md R82, R83) -/

/-- Position tags (R83): they carry no semantics. -/
inductive Tag where
  | dest | src | single | addSrc | cond | bit
  deriving DecidableEq, Repr

/-- The types of Inner fields (R84). -/
inductive InnerType where
  | reg8 | r16 | r16Stk | r16Ptr | cond | bit3 | rst
  deriving DecidableEq, Repr

/-- Whether a field value names a variant of the type (R84, R87 (b)). -/
def InnerType.hasVariant : InnerType → Nat → Bool
  | .reg8, n => (Reg8.ofCode n).isSome
  | .r16, n => (R16.ofCode n).isSome
  | .r16Stk, n => (R16Stk.ofCode n).isSome
  | .r16Ptr, n => (R16Ptr.ofCode n).isSome
  | .cond, n => (Cond.ofCode n).isSome
  | .bit3, n => (Bit3.ofCode n).isSome
  | .rst, n => (Rst.ofCode n).isSome

/-- An Inner parameter: a field of the opcode byte, its shift given by its mask (R83, R88). -/
structure Inner where
  mask : Byte
  type : InnerType
  deriving DecidableEq, Repr

/-- The index of the lowest set bit among bits `i`, `i+1`, … (`fuel` of them); 0 where none is set. -/
def lowestSetBit (m : Byte) : Nat → Nat → Nat
  | 0, _ => 0
  | fuel + 1, i => if m.getLsbD i then i else lowestSetBit m fuel (i + 1)

/-- The shift of an Inner parameter (R88). -/
def Inner.shift (q : Inner) : Nat := lowestSetBit q.mask 8 0

/-- The field value in an opcode byte: `(b & mask) >> shift` (R88). -/
def Inner.field (q : Inner) (b : Byte) : Nat := ((b &&& q.mask) >>> q.shift).toNat

/-- The bits a field value contributes back to an opcode byte: `(value << shift) & mask` (R88). -/
def Inner.contributes (q : Inner) (value : Nat) : Byte := (BitVec.ofNat 8 value <<< q.shift) &&& q.mask

/-- The three variants of a parameter (R83). A Constant is a fixed operand, named by its spelling; it contributes no
bits or bytes. -/
inductive ParamVariant where
  | inner (q : Inner)
  | appended (k : AppendedKind)
  | constant (value : String)
  deriving DecidableEq, Repr

/-- A parameter: its position tag and its variant (R83). -/
structure ParamDefinition where
  tag : Tag
  variant : ParamVariant
  deriving DecidableEq, Repr

/-- An instruction definition: the four fields of R82, "pure data". The template is its fixed bits and the masks of its
Inner parameters. The parameters stand in the order of the operands in the label (log entry 20). -/
structure Definition where
  label : String
  space : Space
  fixedMask : Byte
  fixedBits : Byte
  params : List ParamDefinition
  deriving DecidableEq, Repr

/-- The Inner parameter in a variant, if it is one. -/
def ParamVariant.inner? : ParamVariant → Option Inner
  | .inner q => some q
  | .appended _ => none
  | .constant _ => none

/-- The Appended parameter in a variant, if it is one. -/
def ParamVariant.appended? : ParamVariant → Option AppendedKind
  | .inner _ => none
  | .appended k => some k
  | .constant _ => none

/-- The Inner parameters, in order. -/
def Definition.inner (d : Definition) : List Inner := d.params.filterMap (fun p => p.variant.inner?)

/-- The Appended parameters, in order. -/
def Definition.appended (d : Definition) : List AppendedKind := d.params.filterMap (fun p => p.variant.appended?)

/-- A definition claims a byte when the fixed bits agree and every field names a variant (R87). -/
def Definition.claims (d : Definition) (b : Byte) : Bool :=
  (b &&& d.fixedMask) == d.fixedBits && d.inner.all (fun q => q.type.hasVariant (q.field b))

/-- The field values of a byte (`from_opcode`, R89). -/
def Definition.fields (d : Definition) (b : Byte) : List Nat := d.inner.map (fun q => q.field b)

/-- The opcode byte of field values: the fixed bits and the bits each field contributes (R92). -/
def Definition.opcode (d : Definition) (values : List Nat) : Byte :=
  (List.zipWith Inner.contributes d.inner values).foldl (· ||| ·) d.fixedBits

/-- The mask is one run of bits (R85). -/
def Inner.contiguous (q : Inner) : Bool := (q.mask >>> q.shift) &&& (q.mask >>> q.shift + 1) == 0

/-- The conditions of R85: the masks are runs, disjoint from the fixed bits and from each other; and, as in every
definition of the catalog, they own all the other bits. -/
def Definition.wf (d : Definition) : Bool :=
  d.fixedBits &&& ~~~d.fixedMask == 0 && d.inner.all Inner.contiguous &&
    d.inner.foldl (fun acc q => acc.bind (fun m => if m &&& q.mask == 0 then some (m ||| q.mask) else none))
      (some d.fixedMask) == some 0xFF

/-! ### Builders (`build_instruction`, R90): the typed instruction from the field values and the operands, one for each
shape of parameters; each answers none where they do not fit. -/

/-- No Inner field, no operand. -/
def build0 (i : Instr) : List Nat → List Operand → Option Instr
  | [], [] => some i
  | _, _ => none

/-- One Inner field. -/
def build1 {α : Type} (ty : Nat → Option α) (f : α → Instr) : List Nat → List Operand → Option Instr
  | [x], [] => (ty x).map f
  | _, _ => none

/-- Two Inner fields. -/
def build2 {α β : Type} (ty₁ : Nat → Option α) (ty₂ : Nat → Option β) (f : α → β → Instr) :
    List Nat → List Operand → Option Instr
  | [x, y], [] => (ty₁ x).bind (fun a => (ty₂ y).map (f a))
  | _, _ => none

/-- One operand. -/
def build0N8 (f : Byte → Instr) : List Nat → List Operand → Option Instr
  | [], [.n8 n] => some (f n)
  | _, _ => none

def build0E8 (f : Word → Instr) : List Nat → List Operand → Option Instr
  | [], [.e8 e] => some (f e)
  | _, _ => none

def build0N16 (f : Word → Instr) : List Nat → List Operand → Option Instr
  | [], [.n16 n] => some (f n)
  | _, _ => none

/-- One Inner field and one operand. -/
def build1N8 {α : Type} (ty : Nat → Option α) (f : α → Byte → Instr) : List Nat → List Operand → Option Instr
  | [x], [.n8 n] => (ty x).map (fun a => f a n)
  | _, _ => none

def build1E8 {α : Type} (ty : Nat → Option α) (f : α → Word → Instr) : List Nat → List Operand → Option Instr
  | [x], [.e8 e] => (ty x).map (fun a => f a e)
  | _, _ => none

def build1N16 {α : Type} (ty : Nat → Option α) (f : α → Word → Instr) : List Nat → List Operand → Option Instr
  | [x], [.n16 n] => (ty x).map (fun a => f a n)
  | _, _ => none

/-! ## The catalog (30_encoding.md R98), in pieces -/

/-- What the runtime decoder installs in a table slot (R95, `h` of R100): a definition of the catalog, and the builder
of its instructions. -/
structure Handle where
  definition : Definition
  build : List Nat → List Operand → Option Instr

/-- The catalog, definitions 1 to 20. -/
def catalogA : List Handle := [
  -- 00000000 (R300)
  ⟨⟨"NOP", .primary, 0xFF, 0x00, []⟩,
    build0 .nop⟩,
  -- 00pp0001 (R160)
  ⟨⟨"LD r16, n16", .primary, 0xCF, 0x01, [⟨.dest, .inner ⟨0x30, .r16⟩⟩, ⟨.src, .appended .n16⟩]⟩,
    build1N16 R16.ofCode Form.ldR16N16⟩,
  -- 000p0010 (R136)
  ⟨⟨"LD [r16ptr], A", .primary, 0xEF, 0x02, [⟨.dest, .inner ⟨0x10, .r16Ptr⟩⟩, ⟨.src, .constant "A"⟩]⟩,
    build1 R16Ptr.ofCode Form.ldAtPtrA⟩,
  -- 00100010 (R141)
  ⟨⟨"LD [HL+], A", .primary, 0xFF, 0x22, [⟨.dest, .constant "[HL+]"⟩, ⟨.src, .constant "A"⟩]⟩,
    build0 .ldAtHLIncA⟩,
  -- 00110010 (R142)
  ⟨⟨"LD [HL-], A", .primary, 0xFF, 0x32, [⟨.dest, .constant "[HL-]"⟩, ⟨.src, .constant "A"⟩]⟩,
    build0 .ldAtHLDecA⟩,
  -- 00pp0011 (R221)
  ⟨⟨"INC r16", .primary, 0xCF, 0x03, [⟨.single, .inner ⟨0x30, .r16⟩⟩]⟩,
    build1 R16.ofCode Form.incR16⟩,
  -- 00ddd100 (R205)
  ⟨⟨"INC r8", .primary, 0xC7, 0x04, [⟨.single, .inner ⟨0x38, .reg8⟩⟩]⟩,
    build1 Reg8.ofCode Form.incR8⟩,
  -- 00110100 (R206)
  ⟨⟨"INC [HL]", .primary, 0xFF, 0x34, [⟨.single, .constant "[HL]"⟩]⟩,
    build0 .incAtHL⟩,
  -- 00ddd101 (R207)
  ⟨⟨"DEC r8", .primary, 0xC7, 0x05, [⟨.single, .inner ⟨0x38, .reg8⟩⟩]⟩,
    build1 Reg8.ofCode Form.decR8⟩,
  -- 00110101 (R208)
  ⟨⟨"DEC [HL]", .primary, 0xFF, 0x35, [⟨.single, .constant "[HL]"⟩]⟩,
    build0 .decAtHL⟩,
  -- 00ddd110 (R131)
  ⟨⟨"LD r8, n8", .primary, 0xC7, 0x06, [⟨.dest, .inner ⟨0x38, .reg8⟩⟩, ⟨.src, .appended .n8⟩]⟩,
    build1N8 Reg8.ofCode Form.ldR8N8⟩,
  -- 00110110 (R134)
  ⟨⟨"LD [HL], n8", .primary, 0xFF, 0x36, [⟨.dest, .constant "[HL]"⟩, ⟨.src, .appended .n8⟩]⟩,
    build0N8 .ldAtHLN8⟩,
  -- 00000111 (R241)
  ⟨⟨"RLCA", .primary, 0xFF, 0x07, []⟩,
    build0 .rlca⟩,
  -- 00001000 (R161)
  ⟨⟨"LD [n16], SP", .primary, 0xFF, 0x08, [⟨.dest, .appended .n16⟩, ⟨.src, .constant "SP"⟩]⟩,
    build0N16 .ldAtN16SP⟩,
  -- 00pp1001 (R220)
  ⟨⟨"ADD HL, r16", .primary, 0xCF, 0x09, [⟨.dest, .constant "HL"⟩, ⟨.addSrc, .inner ⟨0x30, .r16⟩⟩]⟩,
    build1 R16.ofCode Form.addHLR16⟩,
  -- 000p1010 (R135)
  ⟨⟨"LD A, [r16ptr]", .primary, 0xEF, 0x0A, [⟨.dest, .constant "A"⟩, ⟨.src, .inner ⟨0x10, .r16Ptr⟩⟩]⟩,
    build1 R16Ptr.ofCode Form.ldAAtPtr⟩,
  -- 00101010 (R139)
  ⟨⟨"LD A, [HL+]", .primary, 0xFF, 0x2A, [⟨.dest, .constant "A"⟩, ⟨.src, .constant "[HL+]"⟩]⟩,
    build0 .ldAAtHLInc⟩,
  -- 00111010 (R140)
  ⟨⟨"LD A, [HL-]", .primary, 0xFF, 0x3A, [⟨.dest, .constant "A"⟩, ⟨.src, .constant "[HL-]"⟩]⟩,
    build0 .ldAAtHLDec⟩,
  -- 00pp1011 (R222)
  ⟨⟨"DEC r16", .primary, 0xCF, 0x0B, [⟨.single, .inner ⟨0x30, .r16⟩⟩]⟩,
    build1 R16.ofCode Form.decR16⟩,
  -- 00001111 (R242)
  ⟨⟨"RRCA", .primary, 0xFF, 0x0F, []⟩,
    build0 .rrca⟩]

/-- The catalog, definitions 21 to 40. -/
def catalogB : List Handle := [
  -- 00010000 (R303)
  ⟨⟨"STOP", .primary, 0xFF, 0x10, [⟨.single, .appended .n8⟩]⟩,
    build0N8 .stop⟩,
  -- 00010111 (R243)
  ⟨⟨"RLA", .primary, 0xFF, 0x17, []⟩,
    build0 .rla⟩,
  -- 00011000 (R273)
  ⟨⟨"JR e8", .primary, 0xFF, 0x18, [⟨.single, .appended .e8⟩]⟩,
    build0E8 .jrE8⟩,
  -- 00011111 (R244)
  ⟨⟨"RRA", .primary, 0xFF, 0x1F, []⟩,
    build0 .rra⟩,
  -- 001cc000 (R274)
  ⟨⟨"JR cc, e8", .primary, 0xE7, 0x20, [⟨.cond, .inner ⟨0x18, .cond⟩⟩, ⟨.single, .appended .e8⟩]⟩,
    build1E8 Cond.ofCode Form.jrCcE8⟩,
  -- 00100111 (R209)
  ⟨⟨"DAA", .primary, 0xFF, 0x27, []⟩,
    build0 .daa⟩,
  -- 00101111 (R210)
  ⟨⟨"CPL", .primary, 0xFF, 0x2F, []⟩,
    build0 .cpl⟩,
  -- 00110111 (R211)
  ⟨⟨"SCF", .primary, 0xFF, 0x37, []⟩,
    build0 .scf⟩,
  -- 00111111 (R212)
  ⟨⟨"CCF", .primary, 0xFF, 0x3F, []⟩,
    build0 .ccf⟩,
  -- 01dddsss (R130)
  ⟨⟨"LD r8, r8", .primary, 0xC0, 0x40, [⟨.dest, .inner ⟨0x38, .reg8⟩⟩, ⟨.src, .inner ⟨0x07, .reg8⟩⟩]⟩,
    build2 Reg8.ofCode Reg8.ofCode Form.ldR8R8⟩,
  -- 01ddd110 (R132)
  ⟨⟨"LD r8, [HL]", .primary, 0xC7, 0x46, [⟨.dest, .inner ⟨0x38, .reg8⟩⟩, ⟨.src, .constant "[HL]"⟩]⟩,
    build1 Reg8.ofCode Form.ldR8AtHL⟩,
  -- 01110sss (R133)
  ⟨⟨"LD [HL], r8", .primary, 0xF8, 0x70, [⟨.dest, .constant "[HL]"⟩, ⟨.src, .inner ⟨0x07, .reg8⟩⟩]⟩,
    build1 Reg8.ofCode Form.ldAtHLR8⟩,
  -- 01110110 (R302)
  ⟨⟨"HALT", .primary, 0xFF, 0x76, []⟩,
    build0 .halt⟩,
  -- 10000sss (R181)
  ⟨⟨"ADD A, r8", .primary, 0xF8, 0x80, [⟨.dest, .constant "A"⟩, ⟨.src, .inner ⟨0x07, .reg8⟩⟩]⟩,
    build1 Reg8.ofCode Form.addAR8⟩,
  -- 10000110 (R182)
  ⟨⟨"ADD A, [HL]", .primary, 0xFF, 0x86, [⟨.dest, .constant "A"⟩, ⟨.src, .constant "[HL]"⟩]⟩,
    build0 .addAAtHL⟩,
  -- 11000110 (R183)
  ⟨⟨"ADD A, n8", .primary, 0xFF, 0xC6, [⟨.dest, .constant "A"⟩, ⟨.src, .appended .n8⟩]⟩,
    build0N8 .addAN8⟩,
  -- 10001sss (R184)
  ⟨⟨"ADC A, r8", .primary, 0xF8, 0x88, [⟨.dest, .constant "A"⟩, ⟨.src, .inner ⟨0x07, .reg8⟩⟩]⟩,
    build1 Reg8.ofCode Form.adcAR8⟩,
  -- 10001110 (R185)
  ⟨⟨"ADC A, [HL]", .primary, 0xFF, 0x8E, [⟨.dest, .constant "A"⟩, ⟨.src, .constant "[HL]"⟩]⟩,
    build0 .adcAAtHL⟩,
  -- 11001110 (R186)
  ⟨⟨"ADC A, n8", .primary, 0xFF, 0xCE, [⟨.dest, .constant "A"⟩, ⟨.src, .appended .n8⟩]⟩,
    build0N8 .adcAN8⟩,
  -- 10010sss (R187)
  ⟨⟨"SUB A, r8", .primary, 0xF8, 0x90, [⟨.dest, .constant "A"⟩, ⟨.src, .inner ⟨0x07, .reg8⟩⟩]⟩,
    build1 Reg8.ofCode Form.subAR8⟩]

/-- The catalog, definitions 41 to 60. -/
def catalogC : List Handle := [
  -- 10010110 (R188)
  ⟨⟨"SUB A, [HL]", .primary, 0xFF, 0x96, [⟨.dest, .constant "A"⟩, ⟨.src, .constant "[HL]"⟩]⟩,
    build0 .subAAtHL⟩,
  -- 11010110 (R189)
  ⟨⟨"SUB A, n8", .primary, 0xFF, 0xD6, [⟨.dest, .constant "A"⟩, ⟨.src, .appended .n8⟩]⟩,
    build0N8 .subAN8⟩,
  -- 10011sss (R190)
  ⟨⟨"SBC A, r8", .primary, 0xF8, 0x98, [⟨.dest, .constant "A"⟩, ⟨.src, .inner ⟨0x07, .reg8⟩⟩]⟩,
    build1 Reg8.ofCode Form.sbcAR8⟩,
  -- 10011110 (R191)
  ⟨⟨"SBC A, [HL]", .primary, 0xFF, 0x9E, [⟨.dest, .constant "A"⟩, ⟨.src, .constant "[HL]"⟩]⟩,
    build0 .sbcAAtHL⟩,
  -- 11011110 (R192)
  ⟨⟨"SBC A, n8", .primary, 0xFF, 0xDE, [⟨.dest, .constant "A"⟩, ⟨.src, .appended .n8⟩]⟩,
    build0N8 .sbcAN8⟩,
  -- 10100sss (R193)
  ⟨⟨"AND A, r8", .primary, 0xF8, 0xA0, [⟨.dest, .constant "A"⟩, ⟨.src, .inner ⟨0x07, .reg8⟩⟩]⟩,
    build1 Reg8.ofCode Form.andAR8⟩,
  -- 10100110 (R194)
  ⟨⟨"AND A, [HL]", .primary, 0xFF, 0xA6, [⟨.dest, .constant "A"⟩, ⟨.src, .constant "[HL]"⟩]⟩,
    build0 .andAAtHL⟩,
  -- 11100110 (R195)
  ⟨⟨"AND A, n8", .primary, 0xFF, 0xE6, [⟨.dest, .constant "A"⟩, ⟨.src, .appended .n8⟩]⟩,
    build0N8 .andAN8⟩,
  -- 10101sss (R196)
  ⟨⟨"XOR A, r8", .primary, 0xF8, 0xA8, [⟨.dest, .constant "A"⟩, ⟨.src, .inner ⟨0x07, .reg8⟩⟩]⟩,
    build1 Reg8.ofCode Form.xorAR8⟩,
  -- 10101110 (R197)
  ⟨⟨"XOR A, [HL]", .primary, 0xFF, 0xAE, [⟨.dest, .constant "A"⟩, ⟨.src, .constant "[HL]"⟩]⟩,
    build0 .xorAAtHL⟩,
  -- 11101110 (R198)
  ⟨⟨"XOR A, n8", .primary, 0xFF, 0xEE, [⟨.dest, .constant "A"⟩, ⟨.src, .appended .n8⟩]⟩,
    build0N8 .xorAN8⟩,
  -- 10110sss (R199)
  ⟨⟨"OR A, r8", .primary, 0xF8, 0xB0, [⟨.dest, .constant "A"⟩, ⟨.src, .inner ⟨0x07, .reg8⟩⟩]⟩,
    build1 Reg8.ofCode Form.orAR8⟩,
  -- 10110110 (R200)
  ⟨⟨"OR A, [HL]", .primary, 0xFF, 0xB6, [⟨.dest, .constant "A"⟩, ⟨.src, .constant "[HL]"⟩]⟩,
    build0 .orAAtHL⟩,
  -- 11110110 (R201)
  ⟨⟨"OR A, n8", .primary, 0xFF, 0xF6, [⟨.dest, .constant "A"⟩, ⟨.src, .appended .n8⟩]⟩,
    build0N8 .orAN8⟩,
  -- 10111sss (R202)
  ⟨⟨"CP A, r8", .primary, 0xF8, 0xB8, [⟨.dest, .constant "A"⟩, ⟨.src, .inner ⟨0x07, .reg8⟩⟩]⟩,
    build1 Reg8.ofCode Form.cpAR8⟩,
  -- 10111110 (R203)
  ⟨⟨"CP A, [HL]", .primary, 0xFF, 0xBE, [⟨.dest, .constant "A"⟩, ⟨.src, .constant "[HL]"⟩]⟩,
    build0 .cpAAtHL⟩,
  -- 11111110 (R204)
  ⟨⟨"CP A, n8", .primary, 0xFF, 0xFE, [⟨.dest, .constant "A"⟩, ⟨.src, .appended .n8⟩]⟩,
    build0N8 .cpAN8⟩,
  -- 110cc000 (R278)
  ⟨⟨"RET cc", .primary, 0xE7, 0xC0, [⟨.cond, .inner ⟨0x18, .cond⟩⟩]⟩,
    build1 Cond.ofCode Form.retCc⟩,
  -- 11pp0001 (R166)
  ⟨⟨"POP r16stk", .primary, 0xCF, 0xC1, [⟨.single, .inner ⟨0x30, .r16Stk⟩⟩]⟩,
    build1 R16Stk.ofCode Form.popR16⟩,
  -- 11110001 (R167)
  ⟨⟨"POP AF", .primary, 0xFF, 0xF1, [⟨.single, .constant "AF"⟩]⟩,
    build0 .popAF⟩]

/-- The catalog, definitions 61 to 81. -/
def catalogD : List Handle := [
  -- 110cc010 (R271)
  ⟨⟨"JP cc, n16", .primary, 0xE7, 0xC2, [⟨.cond, .inner ⟨0x18, .cond⟩⟩, ⟨.single, .appended .n16⟩]⟩,
    build1N16 Cond.ofCode Form.jpCcN16⟩,
  -- 11000011 (R270)
  ⟨⟨"JP n16", .primary, 0xFF, 0xC3, [⟨.single, .appended .n16⟩]⟩,
    build0N16 .jpN16⟩,
  -- 110cc100 (R276)
  ⟨⟨"CALL cc, n16", .primary, 0xE7, 0xC4, [⟨.cond, .inner ⟨0x18, .cond⟩⟩, ⟨.single, .appended .n16⟩]⟩,
    build1N16 Cond.ofCode Form.callCcN16⟩,
  -- 11pp0101 (R164)
  ⟨⟨"PUSH r16stk", .primary, 0xCF, 0xC5, [⟨.single, .inner ⟨0x30, .r16Stk⟩⟩]⟩,
    build1 R16Stk.ofCode Form.pushR16⟩,
  -- 11110101 (R165)
  ⟨⟨"PUSH AF", .primary, 0xFF, 0xF5, [⟨.single, .constant "AF"⟩]⟩,
    build0 .pushAF⟩,
  -- 11ttt111 (R280)
  ⟨⟨"RST vec", .primary, 0xC7, 0xC7, [⟨.single, .inner ⟨0x38, .rst⟩⟩]⟩,
    build1 Rst.ofCode Form.rstVec⟩,
  -- 11001001 (R277)
  ⟨⟨"RET", .primary, 0xFF, 0xC9, []⟩,
    build0 .ret⟩,
  -- 11011001 (R279)
  ⟨⟨"RETI", .primary, 0xFF, 0xD9, []⟩,
    build0 .reti⟩,
  -- 11001101 (R275)
  ⟨⟨"CALL n16", .primary, 0xFF, 0xCD, [⟨.single, .appended .n16⟩]⟩,
    build0N16 .callN16⟩,
  -- 11100000 (R143)
  ⟨⟨"LDH [n8], A", .primary, 0xFF, 0xE0, [⟨.dest, .appended .n8⟩, ⟨.src, .constant "A"⟩]⟩,
    build0N8 .ldhAtN8A⟩,
  -- 11100010 (R145)
  ⟨⟨"LDH [C], A", .primary, 0xFF, 0xE2, [⟨.dest, .constant "[C]"⟩, ⟨.src, .constant "A"⟩]⟩,
    build0 .ldhAtCA⟩,
  -- 11101000 (R223)
  ⟨⟨"ADD SP, e8", .primary, 0xFF, 0xE8, [⟨.dest, .constant "SP"⟩, ⟨.addSrc, .appended .e8⟩]⟩,
    build0E8 .addSPE8⟩,
  -- 11101001 (R272)
  ⟨⟨"JP HL", .primary, 0xFF, 0xE9, [⟨.single, .constant "HL"⟩]⟩,
    build0 .jpHL⟩,
  -- 11101010 (R138)
  ⟨⟨"LD [n16], A", .primary, 0xFF, 0xEA, [⟨.dest, .appended .n16⟩, ⟨.src, .constant "A"⟩]⟩,
    build0N16 .ldAtN16A⟩,
  -- 11110000 (R144)
  ⟨⟨"LDH A, [n8]", .primary, 0xFF, 0xF0, [⟨.dest, .constant "A"⟩, ⟨.src, .appended .n8⟩]⟩,
    build0N8 .ldhAAtN8⟩,
  -- 11110010 (R146)
  ⟨⟨"LDH A, [C]", .primary, 0xFF, 0xF2, [⟨.dest, .constant "A"⟩, ⟨.src, .constant "[C]"⟩]⟩,
    build0 .ldhAAtC⟩,
  -- 11110011 (R301)
  ⟨⟨"DI", .primary, 0xFF, 0xF3, []⟩,
    build0 .di⟩,
  -- 11111000 (R163)
  ⟨⟨"LD HL, SP+e8", .primary, 0xFF, 0xF8, [⟨.dest, .constant "HL"⟩, ⟨.src, .constant "SP"⟩, ⟨.addSrc, .appended .e8⟩]⟩,
    build0E8 .ldHLSPE8⟩,
  -- 11111001 (R162)
  ⟨⟨"LD SP, HL", .primary, 0xFF, 0xF9, [⟨.dest, .constant "SP"⟩, ⟨.src, .constant "HL"⟩]⟩,
    build0 .ldSPHL⟩,
  -- 11111010 (R137)
  ⟨⟨"LD A, [n16]", .primary, 0xFF, 0xFA, [⟨.dest, .constant "A"⟩, ⟨.src, .appended .n16⟩]⟩,
    build0N16 .ldAAtN16⟩,
  -- 11111011 (R304)
  ⟨⟨"EI", .primary, 0xFF, 0xFB, []⟩,
    build0 .ei⟩]

/-- The catalog, definitions 82 to 103: the extended space. -/
def catalogE : List Handle := [
  -- 00000sss (R245)
  ⟨⟨"RLC r8", .extended, 0xF8, 0x00, [⟨.single, .inner ⟨0x07, .reg8⟩⟩]⟩,
    build1 Reg8.ofCode Form.rlcR8⟩,
  -- 00000110 (R246)
  ⟨⟨"RLC [HL]", .extended, 0xFF, 0x06, [⟨.single, .constant "[HL]"⟩]⟩,
    build0 .rlcAtHL⟩,
  -- 00001sss (R247)
  ⟨⟨"RRC r8", .extended, 0xF8, 0x08, [⟨.single, .inner ⟨0x07, .reg8⟩⟩]⟩,
    build1 Reg8.ofCode Form.rrcR8⟩,
  -- 00001110 (R248)
  ⟨⟨"RRC [HL]", .extended, 0xFF, 0x0E, [⟨.single, .constant "[HL]"⟩]⟩,
    build0 .rrcAtHL⟩,
  -- 00010sss (R249)
  ⟨⟨"RL r8", .extended, 0xF8, 0x10, [⟨.single, .inner ⟨0x07, .reg8⟩⟩]⟩,
    build1 Reg8.ofCode Form.rlR8⟩,
  -- 00010110 (R250)
  ⟨⟨"RL [HL]", .extended, 0xFF, 0x16, [⟨.single, .constant "[HL]"⟩]⟩,
    build0 .rlAtHL⟩,
  -- 00011sss (R251)
  ⟨⟨"RR r8", .extended, 0xF8, 0x18, [⟨.single, .inner ⟨0x07, .reg8⟩⟩]⟩,
    build1 Reg8.ofCode Form.rrR8⟩,
  -- 00011110 (R252)
  ⟨⟨"RR [HL]", .extended, 0xFF, 0x1E, [⟨.single, .constant "[HL]"⟩]⟩,
    build0 .rrAtHL⟩,
  -- 00100sss (R253)
  ⟨⟨"SLA r8", .extended, 0xF8, 0x20, [⟨.single, .inner ⟨0x07, .reg8⟩⟩]⟩,
    build1 Reg8.ofCode Form.slaR8⟩,
  -- 00100110 (R254)
  ⟨⟨"SLA [HL]", .extended, 0xFF, 0x26, [⟨.single, .constant "[HL]"⟩]⟩,
    build0 .slaAtHL⟩,
  -- 00101sss (R255)
  ⟨⟨"SRA r8", .extended, 0xF8, 0x28, [⟨.single, .inner ⟨0x07, .reg8⟩⟩]⟩,
    build1 Reg8.ofCode Form.sraR8⟩,
  -- 00101110 (R256)
  ⟨⟨"SRA [HL]", .extended, 0xFF, 0x2E, [⟨.single, .constant "[HL]"⟩]⟩,
    build0 .sraAtHL⟩,
  -- 00110sss (R257)
  ⟨⟨"SWAP r8", .extended, 0xF8, 0x30, [⟨.single, .inner ⟨0x07, .reg8⟩⟩]⟩,
    build1 Reg8.ofCode Form.swapR8⟩,
  -- 00110110 (R258)
  ⟨⟨"SWAP [HL]", .extended, 0xFF, 0x36, [⟨.single, .constant "[HL]"⟩]⟩,
    build0 .swapAtHL⟩,
  -- 00111sss (R259)
  ⟨⟨"SRL r8", .extended, 0xF8, 0x38, [⟨.single, .inner ⟨0x07, .reg8⟩⟩]⟩,
    build1 Reg8.ofCode Form.srlR8⟩,
  -- 00111110 (R260)
  ⟨⟨"SRL [HL]", .extended, 0xFF, 0x3E, [⟨.single, .constant "[HL]"⟩]⟩,
    build0 .srlAtHL⟩,
  -- 01bbbsss (R261)
  ⟨⟨"BIT u3, r8", .extended, 0xC0, 0x40, [⟨.bit, .inner ⟨0x38, .bit3⟩⟩, ⟨.single, .inner ⟨0x07, .reg8⟩⟩]⟩,
    build2 Bit3.ofCode Reg8.ofCode Form.bitU3R8⟩,
  -- 01bbb110 (R262)
  ⟨⟨"BIT u3, [HL]", .extended, 0xC7, 0x46, [⟨.bit, .inner ⟨0x38, .bit3⟩⟩, ⟨.single, .constant "[HL]"⟩]⟩,
    build1 Bit3.ofCode Form.bitU3AtHL⟩,
  -- 10bbbsss (R263)
  ⟨⟨"RES u3, r8", .extended, 0xC0, 0x80, [⟨.bit, .inner ⟨0x38, .bit3⟩⟩, ⟨.single, .inner ⟨0x07, .reg8⟩⟩]⟩,
    build2 Bit3.ofCode Reg8.ofCode Form.resU3R8⟩,
  -- 10bbb110 (R264)
  ⟨⟨"RES u3, [HL]", .extended, 0xC7, 0x86, [⟨.bit, .inner ⟨0x38, .bit3⟩⟩, ⟨.single, .constant "[HL]"⟩]⟩,
    build1 Bit3.ofCode Form.resU3AtHL⟩,
  -- 11bbbsss (R265)
  ⟨⟨"SET u3, r8", .extended, 0xC0, 0xC0, [⟨.bit, .inner ⟨0x38, .bit3⟩⟩, ⟨.single, .inner ⟨0x07, .reg8⟩⟩]⟩,
    build2 Bit3.ofCode Reg8.ofCode Form.setU3R8⟩,
  -- 11bbb110 (R266)
  ⟨⟨"SET u3, [HL]", .extended, 0xC7, 0xC6, [⟨.bit, .inner ⟨0x38, .bit3⟩⟩, ⟨.single, .constant "[HL]"⟩]⟩,
    build1 Bit3.ofCode Form.setU3AtHL⟩]

/-- The handles of the 103 definitions. -/
def handles : List Handle := catalogA ++ catalogB ++ catalogC ++ catalogD ++ catalogE

/-- The instruction catalog: the 103 definitions and nothing else (R98). -/
def catalog : List Definition := handles.map Handle.definition

/-! ## The runtime decoder (30_encoding.md R95 to R97) -/

/-- The handle in a table slot: that of the definition of that space that claims the byte, or none (R95, R97). No byte is
claimed twice (R96), so the order of the catalog is unobservable. -/
def lookup (sp : Space) (op : Byte) : Option Handle :=
  handles.find? (fun h => h.definition.space == sp && h.definition.claims op)

/-- The signal that a table slot holds no handle: the space and the opcode byte (R97, R101). -/
structure Unimplemented where
  space : Space
  op : Byte
  deriving DecidableEq, Repr

/-- Decode an opcode byte of a space with the bytes after it: look the definition up, extract its fields, read its
operands (R89, R90). The answer holds the bytes left. A definition whose builder or operands do not fit has no usable
handle; the catalog has none such (R86). -/
def decodeIn (sp : Space) (op : Byte) (rest : List Byte) : Except Unimplemented (Instr × List Byte) :=
  match lookup sp op with
  | none => .error ⟨sp, op⟩
  | some h =>
    match readOperands h.definition.appended rest with
    | none => .error ⟨sp, op⟩
    | some (os, rest') =>
      match h.build (h.definition.fields op) os with
      | none => .error ⟨sp, op⟩
      | some i => .ok (i, rest')

/-- The extended-prefix byte (00_scope.md R9). -/
def prefixByte : Byte := 0xCB

/-- Decode the three bytes that start at an instruction (no instruction is longer, R80): the instruction and its
length. After the prefix the next byte is always looked up in the extended table (R114). -/
def decodeWindow (b0 b1 b2 : Byte) : Except Unimplemented (Instr × Nat) :=
  if b0 == prefixByte then
    match decodeIn .extended b1 [b2] with
    | .ok (i, rest) => .ok (i, 3 - rest.length)
    | .error e => .error e
  else
    match decodeIn .primary b0 [b1, b2] with
    | .ok (i, rest) => .ok (i, 3 - rest.length)
    | .error e => .error e

/-- How many bytes of an instruction follow its first one; it is known from the first byte alone (R115). An unclaimed
byte has no length, and nothing follows it. -/
def bytesAfterFirst (b0 : Byte) : Nat :=
  if b0 == prefixByte then 1
  else
    match lookup .primary b0 with
    | none => 0
    | some h => (h.definition.appended.map AppendedKind.size).sum

/-- Why a byte sequence is no instruction. -/
inductive DecodeError where
  /-- The sequence ends before the instruction does. -/
  | truncated
  /-- The opcode byte is claimed by no definition (R101). -/
  | unimplementedOpcode (u : Unimplemented)
  deriving DecidableEq, Repr

/-- Decode the instruction at the head of a byte sequence, and give the bytes after it: total, rejecting by name. -/
def decode : List Byte → Except DecodeError (Instr × List Byte)
  | [] => .error .truncated
  | b0 :: rest =>
    match decodeWindow b0 (rest.getD 0 0) (rest.getD 1 0) with
    | .error u => .error (.unimplementedOpcode u)
    | .ok (i, n) => if n ≤ rest.length + 1 then .ok (i, (b0 :: rest).drop n) else .error .truncated

/-! ## The encoder (30_encoding.md R92) -/

/-- The parts of an instruction's encoding: its space, its opcode byte, its appended operands. -/
structure Encoding where
  space : Space
  op : Byte
  operands : List Operand
  deriving DecidableEq, Repr

/-- The encoding of each row, from spec/opcode_table.json. -/
def Instr.encoding : Instr → Encoding
  -- NOP
  | .nop => ⟨.primary, 0x00, []⟩
  -- LD r16, n16
  | .ldBCN16 n => ⟨.primary, 0x01, [.n16 n]⟩ | .ldDEN16 n => ⟨.primary, 0x11, [.n16 n]⟩
  | .ldHLN16 n => ⟨.primary, 0x21, [.n16 n]⟩ | .ldSPN16 n => ⟨.primary, 0x31, [.n16 n]⟩
  -- LD [r16ptr], A
  | .ldAtBCA => ⟨.primary, 0x02, []⟩ | .ldAtDEA => ⟨.primary, 0x12, []⟩
  -- LD [HL+], A
  | .ldAtHLIncA => ⟨.primary, 0x22, []⟩
  -- LD [HL-], A
  | .ldAtHLDecA => ⟨.primary, 0x32, []⟩
  -- INC r16
  | .incBC => ⟨.primary, 0x03, []⟩ | .incDE => ⟨.primary, 0x13, []⟩ | .incHL => ⟨.primary, 0x23, []⟩
  | .incSP => ⟨.primary, 0x33, []⟩
  -- INC r8
  | .incB => ⟨.primary, 0x04, []⟩ | .incC => ⟨.primary, 0x0C, []⟩ | .incD => ⟨.primary, 0x14, []⟩
  | .incE => ⟨.primary, 0x1C, []⟩ | .incH => ⟨.primary, 0x24, []⟩ | .incL => ⟨.primary, 0x2C, []⟩
  | .incA => ⟨.primary, 0x3C, []⟩
  -- INC [HL]
  | .incAtHL => ⟨.primary, 0x34, []⟩
  -- DEC r8
  | .decB => ⟨.primary, 0x05, []⟩ | .decC => ⟨.primary, 0x0D, []⟩ | .decD => ⟨.primary, 0x15, []⟩
  | .decE => ⟨.primary, 0x1D, []⟩ | .decH => ⟨.primary, 0x25, []⟩ | .decL => ⟨.primary, 0x2D, []⟩
  | .decA => ⟨.primary, 0x3D, []⟩
  -- DEC [HL]
  | .decAtHL => ⟨.primary, 0x35, []⟩
  -- LD r8, n8
  | .ldBN8 n => ⟨.primary, 0x06, [.n8 n]⟩ | .ldCN8 n => ⟨.primary, 0x0E, [.n8 n]⟩
  | .ldDN8 n => ⟨.primary, 0x16, [.n8 n]⟩ | .ldEN8 n => ⟨.primary, 0x1E, [.n8 n]⟩
  | .ldHN8 n => ⟨.primary, 0x26, [.n8 n]⟩ | .ldLN8 n => ⟨.primary, 0x2E, [.n8 n]⟩
  | .ldAN8 n => ⟨.primary, 0x3E, [.n8 n]⟩
  -- LD [HL], n8
  | .ldAtHLN8 n => ⟨.primary, 0x36, [.n8 n]⟩
  -- RLCA
  | .rlca => ⟨.primary, 0x07, []⟩
  -- LD [n16], SP
  | .ldAtN16SP n => ⟨.primary, 0x08, [.n16 n]⟩
  -- ADD HL, r16
  | .addHLBC => ⟨.primary, 0x09, []⟩ | .addHLDE => ⟨.primary, 0x19, []⟩ | .addHLHL => ⟨.primary, 0x29, []⟩
  | .addHLSP => ⟨.primary, 0x39, []⟩
  -- LD A, [r16ptr]
  | .ldAAtBC => ⟨.primary, 0x0A, []⟩ | .ldAAtDE => ⟨.primary, 0x1A, []⟩
  -- LD A, [HL+]
  | .ldAAtHLInc => ⟨.primary, 0x2A, []⟩
  -- LD A, [HL-]
  | .ldAAtHLDec => ⟨.primary, 0x3A, []⟩
  -- DEC r16
  | .decBC => ⟨.primary, 0x0B, []⟩ | .decDE => ⟨.primary, 0x1B, []⟩ | .decHL => ⟨.primary, 0x2B, []⟩
  | .decSP => ⟨.primary, 0x3B, []⟩
  -- RRCA
  | .rrca => ⟨.primary, 0x0F, []⟩
  -- STOP
  | .stop n => ⟨.primary, 0x10, [.n8 n]⟩
  -- RLA
  | .rla => ⟨.primary, 0x17, []⟩
  -- JR e8
  | .jrE8 e => ⟨.primary, 0x18, [.e8 e]⟩
  -- RRA
  | .rra => ⟨.primary, 0x1F, []⟩
  -- JR cc, e8
  | .jrNZE8 e => ⟨.primary, 0x20, [.e8 e]⟩ | .jrZE8 e => ⟨.primary, 0x28, [.e8 e]⟩
  | .jrNCE8 e => ⟨.primary, 0x30, [.e8 e]⟩ | .jrCE8 e => ⟨.primary, 0x38, [.e8 e]⟩
  -- DAA
  | .daa => ⟨.primary, 0x27, []⟩
  -- CPL
  | .cpl => ⟨.primary, 0x2F, []⟩
  -- SCF
  | .scf => ⟨.primary, 0x37, []⟩
  -- CCF
  | .ccf => ⟨.primary, 0x3F, []⟩
  -- LD r8, r8
  | .ldBB => ⟨.primary, 0x40, []⟩ | .ldBC => ⟨.primary, 0x41, []⟩ | .ldBD => ⟨.primary, 0x42, []⟩
  | .ldBE => ⟨.primary, 0x43, []⟩ | .ldBH => ⟨.primary, 0x44, []⟩ | .ldBL => ⟨.primary, 0x45, []⟩
  | .ldBA => ⟨.primary, 0x47, []⟩ | .ldCB => ⟨.primary, 0x48, []⟩ | .ldCC => ⟨.primary, 0x49, []⟩
  | .ldCD => ⟨.primary, 0x4A, []⟩ | .ldCE => ⟨.primary, 0x4B, []⟩ | .ldCH => ⟨.primary, 0x4C, []⟩
  | .ldCL => ⟨.primary, 0x4D, []⟩ | .ldCA => ⟨.primary, 0x4F, []⟩ | .ldDB => ⟨.primary, 0x50, []⟩
  | .ldDC => ⟨.primary, 0x51, []⟩ | .ldDD => ⟨.primary, 0x52, []⟩ | .ldDE => ⟨.primary, 0x53, []⟩
  | .ldDH => ⟨.primary, 0x54, []⟩ | .ldDL => ⟨.primary, 0x55, []⟩ | .ldDA => ⟨.primary, 0x57, []⟩
  | .ldEB => ⟨.primary, 0x58, []⟩ | .ldEC => ⟨.primary, 0x59, []⟩ | .ldED => ⟨.primary, 0x5A, []⟩
  | .ldEE => ⟨.primary, 0x5B, []⟩ | .ldEH => ⟨.primary, 0x5C, []⟩ | .ldEL => ⟨.primary, 0x5D, []⟩
  | .ldEA => ⟨.primary, 0x5F, []⟩ | .ldHB => ⟨.primary, 0x60, []⟩ | .ldHC => ⟨.primary, 0x61, []⟩
  | .ldHD => ⟨.primary, 0x62, []⟩ | .ldHE => ⟨.primary, 0x63, []⟩ | .ldHH => ⟨.primary, 0x64, []⟩
  | .ldHL => ⟨.primary, 0x65, []⟩ | .ldHA => ⟨.primary, 0x67, []⟩ | .ldLB => ⟨.primary, 0x68, []⟩
  | .ldLC => ⟨.primary, 0x69, []⟩ | .ldLD => ⟨.primary, 0x6A, []⟩ | .ldLE => ⟨.primary, 0x6B, []⟩
  | .ldLH => ⟨.primary, 0x6C, []⟩ | .ldLL => ⟨.primary, 0x6D, []⟩ | .ldLA => ⟨.primary, 0x6F, []⟩
  | .ldAB => ⟨.primary, 0x78, []⟩ | .ldAC => ⟨.primary, 0x79, []⟩ | .ldAD => ⟨.primary, 0x7A, []⟩
  | .ldAE => ⟨.primary, 0x7B, []⟩ | .ldAH => ⟨.primary, 0x7C, []⟩ | .ldAL => ⟨.primary, 0x7D, []⟩
  | .ldAA => ⟨.primary, 0x7F, []⟩
  -- LD r8, [HL]
  | .ldBAtHL => ⟨.primary, 0x46, []⟩ | .ldCAtHL => ⟨.primary, 0x4E, []⟩ | .ldDAtHL => ⟨.primary, 0x56, []⟩
  | .ldEAtHL => ⟨.primary, 0x5E, []⟩ | .ldHAtHL => ⟨.primary, 0x66, []⟩ | .ldLAtHL => ⟨.primary, 0x6E, []⟩
  | .ldAAtHL => ⟨.primary, 0x7E, []⟩
  -- LD [HL], r8
  | .ldAtHLB => ⟨.primary, 0x70, []⟩ | .ldAtHLC => ⟨.primary, 0x71, []⟩ | .ldAtHLD => ⟨.primary, 0x72, []⟩
  | .ldAtHLE => ⟨.primary, 0x73, []⟩ | .ldAtHLH => ⟨.primary, 0x74, []⟩ | .ldAtHLL => ⟨.primary, 0x75, []⟩
  | .ldAtHLA => ⟨.primary, 0x77, []⟩
  -- HALT
  | .halt => ⟨.primary, 0x76, []⟩
  -- ADD A, r8
  | .addAB => ⟨.primary, 0x80, []⟩ | .addAC => ⟨.primary, 0x81, []⟩ | .addAD => ⟨.primary, 0x82, []⟩
  | .addAE => ⟨.primary, 0x83, []⟩ | .addAH => ⟨.primary, 0x84, []⟩ | .addAL => ⟨.primary, 0x85, []⟩
  | .addAA => ⟨.primary, 0x87, []⟩
  -- ADD A, [HL]
  | .addAAtHL => ⟨.primary, 0x86, []⟩
  -- ADD A, n8
  | .addAN8 n => ⟨.primary, 0xC6, [.n8 n]⟩
  -- ADC A, r8
  | .adcAB => ⟨.primary, 0x88, []⟩ | .adcAC => ⟨.primary, 0x89, []⟩ | .adcAD => ⟨.primary, 0x8A, []⟩
  | .adcAE => ⟨.primary, 0x8B, []⟩ | .adcAH => ⟨.primary, 0x8C, []⟩ | .adcAL => ⟨.primary, 0x8D, []⟩
  | .adcAA => ⟨.primary, 0x8F, []⟩
  -- ADC A, [HL]
  | .adcAAtHL => ⟨.primary, 0x8E, []⟩
  -- ADC A, n8
  | .adcAN8 n => ⟨.primary, 0xCE, [.n8 n]⟩
  -- SUB A, r8
  | .subAB => ⟨.primary, 0x90, []⟩ | .subAC => ⟨.primary, 0x91, []⟩ | .subAD => ⟨.primary, 0x92, []⟩
  | .subAE => ⟨.primary, 0x93, []⟩ | .subAH => ⟨.primary, 0x94, []⟩ | .subAL => ⟨.primary, 0x95, []⟩
  | .subAA => ⟨.primary, 0x97, []⟩
  -- SUB A, [HL]
  | .subAAtHL => ⟨.primary, 0x96, []⟩
  -- SUB A, n8
  | .subAN8 n => ⟨.primary, 0xD6, [.n8 n]⟩
  -- SBC A, r8
  | .sbcAB => ⟨.primary, 0x98, []⟩ | .sbcAC => ⟨.primary, 0x99, []⟩ | .sbcAD => ⟨.primary, 0x9A, []⟩
  | .sbcAE => ⟨.primary, 0x9B, []⟩ | .sbcAH => ⟨.primary, 0x9C, []⟩ | .sbcAL => ⟨.primary, 0x9D, []⟩
  | .sbcAA => ⟨.primary, 0x9F, []⟩
  -- SBC A, [HL]
  | .sbcAAtHL => ⟨.primary, 0x9E, []⟩
  -- SBC A, n8
  | .sbcAN8 n => ⟨.primary, 0xDE, [.n8 n]⟩
  -- AND A, r8
  | .andAB => ⟨.primary, 0xA0, []⟩ | .andAC => ⟨.primary, 0xA1, []⟩ | .andAD => ⟨.primary, 0xA2, []⟩
  | .andAE => ⟨.primary, 0xA3, []⟩ | .andAH => ⟨.primary, 0xA4, []⟩ | .andAL => ⟨.primary, 0xA5, []⟩
  | .andAA => ⟨.primary, 0xA7, []⟩
  -- AND A, [HL]
  | .andAAtHL => ⟨.primary, 0xA6, []⟩
  -- AND A, n8
  | .andAN8 n => ⟨.primary, 0xE6, [.n8 n]⟩
  -- XOR A, r8
  | .xorAB => ⟨.primary, 0xA8, []⟩ | .xorAC => ⟨.primary, 0xA9, []⟩ | .xorAD => ⟨.primary, 0xAA, []⟩
  | .xorAE => ⟨.primary, 0xAB, []⟩ | .xorAH => ⟨.primary, 0xAC, []⟩ | .xorAL => ⟨.primary, 0xAD, []⟩
  | .xorAA => ⟨.primary, 0xAF, []⟩
  -- XOR A, [HL]
  | .xorAAtHL => ⟨.primary, 0xAE, []⟩
  -- XOR A, n8
  | .xorAN8 n => ⟨.primary, 0xEE, [.n8 n]⟩
  -- OR A, r8
  | .orAB => ⟨.primary, 0xB0, []⟩ | .orAC => ⟨.primary, 0xB1, []⟩ | .orAD => ⟨.primary, 0xB2, []⟩
  | .orAE => ⟨.primary, 0xB3, []⟩ | .orAH => ⟨.primary, 0xB4, []⟩ | .orAL => ⟨.primary, 0xB5, []⟩
  | .orAA => ⟨.primary, 0xB7, []⟩
  -- OR A, [HL]
  | .orAAtHL => ⟨.primary, 0xB6, []⟩
  -- OR A, n8
  | .orAN8 n => ⟨.primary, 0xF6, [.n8 n]⟩
  -- CP A, r8
  | .cpAB => ⟨.primary, 0xB8, []⟩ | .cpAC => ⟨.primary, 0xB9, []⟩ | .cpAD => ⟨.primary, 0xBA, []⟩
  | .cpAE => ⟨.primary, 0xBB, []⟩ | .cpAH => ⟨.primary, 0xBC, []⟩ | .cpAL => ⟨.primary, 0xBD, []⟩
  | .cpAA => ⟨.primary, 0xBF, []⟩
  -- CP A, [HL]
  | .cpAAtHL => ⟨.primary, 0xBE, []⟩
  -- CP A, n8
  | .cpAN8 n => ⟨.primary, 0xFE, [.n8 n]⟩
  -- RET cc
  | .retNZ => ⟨.primary, 0xC0, []⟩ | .retZ => ⟨.primary, 0xC8, []⟩ | .retNC => ⟨.primary, 0xD0, []⟩
  | .retC => ⟨.primary, 0xD8, []⟩
  -- POP r16stk
  | .popBC => ⟨.primary, 0xC1, []⟩ | .popDE => ⟨.primary, 0xD1, []⟩ | .popHL => ⟨.primary, 0xE1, []⟩
  -- POP AF
  | .popAF => ⟨.primary, 0xF1, []⟩
  -- JP cc, n16
  | .jpNZN16 n => ⟨.primary, 0xC2, [.n16 n]⟩ | .jpZN16 n => ⟨.primary, 0xCA, [.n16 n]⟩
  | .jpNCN16 n => ⟨.primary, 0xD2, [.n16 n]⟩ | .jpCN16 n => ⟨.primary, 0xDA, [.n16 n]⟩
  -- JP n16
  | .jpN16 n => ⟨.primary, 0xC3, [.n16 n]⟩
  -- CALL cc, n16
  | .callNZN16 n => ⟨.primary, 0xC4, [.n16 n]⟩ | .callZN16 n => ⟨.primary, 0xCC, [.n16 n]⟩
  | .callNCN16 n => ⟨.primary, 0xD4, [.n16 n]⟩ | .callCN16 n => ⟨.primary, 0xDC, [.n16 n]⟩
  -- PUSH r16stk
  | .pushBC => ⟨.primary, 0xC5, []⟩ | .pushDE => ⟨.primary, 0xD5, []⟩ | .pushHL => ⟨.primary, 0xE5, []⟩
  -- PUSH AF
  | .pushAF => ⟨.primary, 0xF5, []⟩
  -- RST vec
  | .rst00 => ⟨.primary, 0xC7, []⟩ | .rst08 => ⟨.primary, 0xCF, []⟩ | .rst10 => ⟨.primary, 0xD7, []⟩
  | .rst18 => ⟨.primary, 0xDF, []⟩ | .rst20 => ⟨.primary, 0xE7, []⟩ | .rst28 => ⟨.primary, 0xEF, []⟩
  | .rst30 => ⟨.primary, 0xF7, []⟩ | .rst38 => ⟨.primary, 0xFF, []⟩
  -- RET
  | .ret => ⟨.primary, 0xC9, []⟩
  -- RETI
  | .reti => ⟨.primary, 0xD9, []⟩
  -- CALL n16
  | .callN16 n => ⟨.primary, 0xCD, [.n16 n]⟩
  -- LDH [n8], A
  | .ldhAtN8A n => ⟨.primary, 0xE0, [.n8 n]⟩
  -- LDH [C], A
  | .ldhAtCA => ⟨.primary, 0xE2, []⟩
  -- ADD SP, e8
  | .addSPE8 e => ⟨.primary, 0xE8, [.e8 e]⟩
  -- JP HL
  | .jpHL => ⟨.primary, 0xE9, []⟩
  -- LD [n16], A
  | .ldAtN16A n => ⟨.primary, 0xEA, [.n16 n]⟩
  -- LDH A, [n8]
  | .ldhAAtN8 n => ⟨.primary, 0xF0, [.n8 n]⟩
  -- LDH A, [C]
  | .ldhAAtC => ⟨.primary, 0xF2, []⟩
  -- DI
  | .di => ⟨.primary, 0xF3, []⟩
  -- LD HL, SP+e8
  | .ldHLSPE8 e => ⟨.primary, 0xF8, [.e8 e]⟩
  -- LD SP, HL
  | .ldSPHL => ⟨.primary, 0xF9, []⟩
  -- LD A, [n16]
  | .ldAAtN16 n => ⟨.primary, 0xFA, [.n16 n]⟩
  -- EI
  | .ei => ⟨.primary, 0xFB, []⟩
  -- RLC r8
  | .rlcB => ⟨.extended, 0x00, []⟩ | .rlcC => ⟨.extended, 0x01, []⟩ | .rlcD => ⟨.extended, 0x02, []⟩
  | .rlcE => ⟨.extended, 0x03, []⟩ | .rlcH => ⟨.extended, 0x04, []⟩ | .rlcL => ⟨.extended, 0x05, []⟩
  | .rlcA => ⟨.extended, 0x07, []⟩
  -- RLC [HL]
  | .rlcAtHL => ⟨.extended, 0x06, []⟩
  -- RRC r8
  | .rrcB => ⟨.extended, 0x08, []⟩ | .rrcC => ⟨.extended, 0x09, []⟩ | .rrcD => ⟨.extended, 0x0A, []⟩
  | .rrcE => ⟨.extended, 0x0B, []⟩ | .rrcH => ⟨.extended, 0x0C, []⟩ | .rrcL => ⟨.extended, 0x0D, []⟩
  | .rrcA => ⟨.extended, 0x0F, []⟩
  -- RRC [HL]
  | .rrcAtHL => ⟨.extended, 0x0E, []⟩
  -- RL r8
  | .rlB => ⟨.extended, 0x10, []⟩ | .rlC => ⟨.extended, 0x11, []⟩ | .rlD => ⟨.extended, 0x12, []⟩
  | .rlE => ⟨.extended, 0x13, []⟩ | .rlH => ⟨.extended, 0x14, []⟩ | .rlL => ⟨.extended, 0x15, []⟩
  | .rlA => ⟨.extended, 0x17, []⟩
  -- RL [HL]
  | .rlAtHL => ⟨.extended, 0x16, []⟩
  -- RR r8
  | .rrB => ⟨.extended, 0x18, []⟩ | .rrC => ⟨.extended, 0x19, []⟩ | .rrD => ⟨.extended, 0x1A, []⟩
  | .rrE => ⟨.extended, 0x1B, []⟩ | .rrH => ⟨.extended, 0x1C, []⟩ | .rrL => ⟨.extended, 0x1D, []⟩
  | .rrA => ⟨.extended, 0x1F, []⟩
  -- RR [HL]
  | .rrAtHL => ⟨.extended, 0x1E, []⟩
  -- SLA r8
  | .slaB => ⟨.extended, 0x20, []⟩ | .slaC => ⟨.extended, 0x21, []⟩ | .slaD => ⟨.extended, 0x22, []⟩
  | .slaE => ⟨.extended, 0x23, []⟩ | .slaH => ⟨.extended, 0x24, []⟩ | .slaL => ⟨.extended, 0x25, []⟩
  | .slaA => ⟨.extended, 0x27, []⟩
  -- SLA [HL]
  | .slaAtHL => ⟨.extended, 0x26, []⟩
  -- SRA r8
  | .sraB => ⟨.extended, 0x28, []⟩ | .sraC => ⟨.extended, 0x29, []⟩ | .sraD => ⟨.extended, 0x2A, []⟩
  | .sraE => ⟨.extended, 0x2B, []⟩ | .sraH => ⟨.extended, 0x2C, []⟩ | .sraL => ⟨.extended, 0x2D, []⟩
  | .sraA => ⟨.extended, 0x2F, []⟩
  -- SRA [HL]
  | .sraAtHL => ⟨.extended, 0x2E, []⟩
  -- SWAP r8
  | .swapB => ⟨.extended, 0x30, []⟩ | .swapC => ⟨.extended, 0x31, []⟩ | .swapD => ⟨.extended, 0x32, []⟩
  | .swapE => ⟨.extended, 0x33, []⟩ | .swapH => ⟨.extended, 0x34, []⟩ | .swapL => ⟨.extended, 0x35, []⟩
  | .swapA => ⟨.extended, 0x37, []⟩
  -- SWAP [HL]
  | .swapAtHL => ⟨.extended, 0x36, []⟩
  -- SRL r8
  | .srlB => ⟨.extended, 0x38, []⟩ | .srlC => ⟨.extended, 0x39, []⟩ | .srlD => ⟨.extended, 0x3A, []⟩
  | .srlE => ⟨.extended, 0x3B, []⟩ | .srlH => ⟨.extended, 0x3C, []⟩ | .srlL => ⟨.extended, 0x3D, []⟩
  | .srlA => ⟨.extended, 0x3F, []⟩
  -- SRL [HL]
  | .srlAtHL => ⟨.extended, 0x3E, []⟩
  -- BIT u3, r8
  | .bit0B => ⟨.extended, 0x40, []⟩ | .bit0C => ⟨.extended, 0x41, []⟩ | .bit0D => ⟨.extended, 0x42, []⟩
  | .bit0E => ⟨.extended, 0x43, []⟩ | .bit0H => ⟨.extended, 0x44, []⟩ | .bit0L => ⟨.extended, 0x45, []⟩
  | .bit0A => ⟨.extended, 0x47, []⟩ | .bit1B => ⟨.extended, 0x48, []⟩ | .bit1C => ⟨.extended, 0x49, []⟩
  | .bit1D => ⟨.extended, 0x4A, []⟩ | .bit1E => ⟨.extended, 0x4B, []⟩ | .bit1H => ⟨.extended, 0x4C, []⟩
  | .bit1L => ⟨.extended, 0x4D, []⟩ | .bit1A => ⟨.extended, 0x4F, []⟩ | .bit2B => ⟨.extended, 0x50, []⟩
  | .bit2C => ⟨.extended, 0x51, []⟩ | .bit2D => ⟨.extended, 0x52, []⟩ | .bit2E => ⟨.extended, 0x53, []⟩
  | .bit2H => ⟨.extended, 0x54, []⟩ | .bit2L => ⟨.extended, 0x55, []⟩ | .bit2A => ⟨.extended, 0x57, []⟩
  | .bit3B => ⟨.extended, 0x58, []⟩ | .bit3C => ⟨.extended, 0x59, []⟩ | .bit3D => ⟨.extended, 0x5A, []⟩
  | .bit3E => ⟨.extended, 0x5B, []⟩ | .bit3H => ⟨.extended, 0x5C, []⟩ | .bit3L => ⟨.extended, 0x5D, []⟩
  | .bit3A => ⟨.extended, 0x5F, []⟩ | .bit4B => ⟨.extended, 0x60, []⟩ | .bit4C => ⟨.extended, 0x61, []⟩
  | .bit4D => ⟨.extended, 0x62, []⟩ | .bit4E => ⟨.extended, 0x63, []⟩ | .bit4H => ⟨.extended, 0x64, []⟩
  | .bit4L => ⟨.extended, 0x65, []⟩ | .bit4A => ⟨.extended, 0x67, []⟩ | .bit5B => ⟨.extended, 0x68, []⟩
  | .bit5C => ⟨.extended, 0x69, []⟩ | .bit5D => ⟨.extended, 0x6A, []⟩ | .bit5E => ⟨.extended, 0x6B, []⟩
  | .bit5H => ⟨.extended, 0x6C, []⟩ | .bit5L => ⟨.extended, 0x6D, []⟩ | .bit5A => ⟨.extended, 0x6F, []⟩
  | .bit6B => ⟨.extended, 0x70, []⟩ | .bit6C => ⟨.extended, 0x71, []⟩ | .bit6D => ⟨.extended, 0x72, []⟩
  | .bit6E => ⟨.extended, 0x73, []⟩ | .bit6H => ⟨.extended, 0x74, []⟩ | .bit6L => ⟨.extended, 0x75, []⟩
  | .bit6A => ⟨.extended, 0x77, []⟩ | .bit7B => ⟨.extended, 0x78, []⟩ | .bit7C => ⟨.extended, 0x79, []⟩
  | .bit7D => ⟨.extended, 0x7A, []⟩ | .bit7E => ⟨.extended, 0x7B, []⟩ | .bit7H => ⟨.extended, 0x7C, []⟩
  | .bit7L => ⟨.extended, 0x7D, []⟩ | .bit7A => ⟨.extended, 0x7F, []⟩
  -- BIT u3, [HL]
  | .bit0AtHL => ⟨.extended, 0x46, []⟩ | .bit1AtHL => ⟨.extended, 0x4E, []⟩ | .bit2AtHL => ⟨.extended, 0x56, []⟩
  | .bit3AtHL => ⟨.extended, 0x5E, []⟩ | .bit4AtHL => ⟨.extended, 0x66, []⟩ | .bit5AtHL => ⟨.extended, 0x6E, []⟩
  | .bit6AtHL => ⟨.extended, 0x76, []⟩ | .bit7AtHL => ⟨.extended, 0x7E, []⟩
  -- RES u3, r8
  | .res0B => ⟨.extended, 0x80, []⟩ | .res0C => ⟨.extended, 0x81, []⟩ | .res0D => ⟨.extended, 0x82, []⟩
  | .res0E => ⟨.extended, 0x83, []⟩ | .res0H => ⟨.extended, 0x84, []⟩ | .res0L => ⟨.extended, 0x85, []⟩
  | .res0A => ⟨.extended, 0x87, []⟩ | .res1B => ⟨.extended, 0x88, []⟩ | .res1C => ⟨.extended, 0x89, []⟩
  | .res1D => ⟨.extended, 0x8A, []⟩ | .res1E => ⟨.extended, 0x8B, []⟩ | .res1H => ⟨.extended, 0x8C, []⟩
  | .res1L => ⟨.extended, 0x8D, []⟩ | .res1A => ⟨.extended, 0x8F, []⟩ | .res2B => ⟨.extended, 0x90, []⟩
  | .res2C => ⟨.extended, 0x91, []⟩ | .res2D => ⟨.extended, 0x92, []⟩ | .res2E => ⟨.extended, 0x93, []⟩
  | .res2H => ⟨.extended, 0x94, []⟩ | .res2L => ⟨.extended, 0x95, []⟩ | .res2A => ⟨.extended, 0x97, []⟩
  | .res3B => ⟨.extended, 0x98, []⟩ | .res3C => ⟨.extended, 0x99, []⟩ | .res3D => ⟨.extended, 0x9A, []⟩
  | .res3E => ⟨.extended, 0x9B, []⟩ | .res3H => ⟨.extended, 0x9C, []⟩ | .res3L => ⟨.extended, 0x9D, []⟩
  | .res3A => ⟨.extended, 0x9F, []⟩ | .res4B => ⟨.extended, 0xA0, []⟩ | .res4C => ⟨.extended, 0xA1, []⟩
  | .res4D => ⟨.extended, 0xA2, []⟩ | .res4E => ⟨.extended, 0xA3, []⟩ | .res4H => ⟨.extended, 0xA4, []⟩
  | .res4L => ⟨.extended, 0xA5, []⟩ | .res4A => ⟨.extended, 0xA7, []⟩ | .res5B => ⟨.extended, 0xA8, []⟩
  | .res5C => ⟨.extended, 0xA9, []⟩ | .res5D => ⟨.extended, 0xAA, []⟩ | .res5E => ⟨.extended, 0xAB, []⟩
  | .res5H => ⟨.extended, 0xAC, []⟩ | .res5L => ⟨.extended, 0xAD, []⟩ | .res5A => ⟨.extended, 0xAF, []⟩
  | .res6B => ⟨.extended, 0xB0, []⟩ | .res6C => ⟨.extended, 0xB1, []⟩ | .res6D => ⟨.extended, 0xB2, []⟩
  | .res6E => ⟨.extended, 0xB3, []⟩ | .res6H => ⟨.extended, 0xB4, []⟩ | .res6L => ⟨.extended, 0xB5, []⟩
  | .res6A => ⟨.extended, 0xB7, []⟩ | .res7B => ⟨.extended, 0xB8, []⟩ | .res7C => ⟨.extended, 0xB9, []⟩
  | .res7D => ⟨.extended, 0xBA, []⟩ | .res7E => ⟨.extended, 0xBB, []⟩ | .res7H => ⟨.extended, 0xBC, []⟩
  | .res7L => ⟨.extended, 0xBD, []⟩ | .res7A => ⟨.extended, 0xBF, []⟩
  -- RES u3, [HL]
  | .res0AtHL => ⟨.extended, 0x86, []⟩ | .res1AtHL => ⟨.extended, 0x8E, []⟩ | .res2AtHL => ⟨.extended, 0x96, []⟩
  | .res3AtHL => ⟨.extended, 0x9E, []⟩ | .res4AtHL => ⟨.extended, 0xA6, []⟩ | .res5AtHL => ⟨.extended, 0xAE, []⟩
  | .res6AtHL => ⟨.extended, 0xB6, []⟩ | .res7AtHL => ⟨.extended, 0xBE, []⟩
  -- SET u3, r8
  | .set0B => ⟨.extended, 0xC0, []⟩ | .set0C => ⟨.extended, 0xC1, []⟩ | .set0D => ⟨.extended, 0xC2, []⟩
  | .set0E => ⟨.extended, 0xC3, []⟩ | .set0H => ⟨.extended, 0xC4, []⟩ | .set0L => ⟨.extended, 0xC5, []⟩
  | .set0A => ⟨.extended, 0xC7, []⟩ | .set1B => ⟨.extended, 0xC8, []⟩ | .set1C => ⟨.extended, 0xC9, []⟩
  | .set1D => ⟨.extended, 0xCA, []⟩ | .set1E => ⟨.extended, 0xCB, []⟩ | .set1H => ⟨.extended, 0xCC, []⟩
  | .set1L => ⟨.extended, 0xCD, []⟩ | .set1A => ⟨.extended, 0xCF, []⟩ | .set2B => ⟨.extended, 0xD0, []⟩
  | .set2C => ⟨.extended, 0xD1, []⟩ | .set2D => ⟨.extended, 0xD2, []⟩ | .set2E => ⟨.extended, 0xD3, []⟩
  | .set2H => ⟨.extended, 0xD4, []⟩ | .set2L => ⟨.extended, 0xD5, []⟩ | .set2A => ⟨.extended, 0xD7, []⟩
  | .set3B => ⟨.extended, 0xD8, []⟩ | .set3C => ⟨.extended, 0xD9, []⟩ | .set3D => ⟨.extended, 0xDA, []⟩
  | .set3E => ⟨.extended, 0xDB, []⟩ | .set3H => ⟨.extended, 0xDC, []⟩ | .set3L => ⟨.extended, 0xDD, []⟩
  | .set3A => ⟨.extended, 0xDF, []⟩ | .set4B => ⟨.extended, 0xE0, []⟩ | .set4C => ⟨.extended, 0xE1, []⟩
  | .set4D => ⟨.extended, 0xE2, []⟩ | .set4E => ⟨.extended, 0xE3, []⟩ | .set4H => ⟨.extended, 0xE4, []⟩
  | .set4L => ⟨.extended, 0xE5, []⟩ | .set4A => ⟨.extended, 0xE7, []⟩ | .set5B => ⟨.extended, 0xE8, []⟩
  | .set5C => ⟨.extended, 0xE9, []⟩ | .set5D => ⟨.extended, 0xEA, []⟩ | .set5E => ⟨.extended, 0xEB, []⟩
  | .set5H => ⟨.extended, 0xEC, []⟩ | .set5L => ⟨.extended, 0xED, []⟩ | .set5A => ⟨.extended, 0xEF, []⟩
  | .set6B => ⟨.extended, 0xF0, []⟩ | .set6C => ⟨.extended, 0xF1, []⟩ | .set6D => ⟨.extended, 0xF2, []⟩
  | .set6E => ⟨.extended, 0xF3, []⟩ | .set6H => ⟨.extended, 0xF4, []⟩ | .set6L => ⟨.extended, 0xF5, []⟩
  | .set6A => ⟨.extended, 0xF7, []⟩ | .set7B => ⟨.extended, 0xF8, []⟩ | .set7C => ⟨.extended, 0xF9, []⟩
  | .set7D => ⟨.extended, 0xFA, []⟩ | .set7E => ⟨.extended, 0xFB, []⟩ | .set7H => ⟨.extended, 0xFC, []⟩
  | .set7L => ⟨.extended, 0xFD, []⟩ | .set7A => ⟨.extended, 0xFF, []⟩
  -- SET u3, [HL]
  | .set0AtHL => ⟨.extended, 0xC6, []⟩ | .set1AtHL => ⟨.extended, 0xCE, []⟩ | .set2AtHL => ⟨.extended, 0xD6, []⟩
  | .set3AtHL => ⟨.extended, 0xDE, []⟩ | .set4AtHL => ⟨.extended, 0xE6, []⟩ | .set5AtHL => ⟨.extended, 0xEE, []⟩
  | .set6AtHL => ⟨.extended, 0xF6, []⟩ | .set7AtHL => ⟨.extended, 0xFE, []⟩

/-- Serialize (`as_bytes`, R92): the prefix in the extended space (90_conflicts.md C9), the opcode byte, the operands. -/
def Encoding.bytes (x : Encoding) : List Byte :=
  (match x.space with
    | .primary => []
    | .extended => [prefixByte]) ++ [x.op] ++ x.operands.flatMap Operand.bytes

/-- The bytes of an instruction, lowest address first. -/
def encode (i : Instr) : List Byte := i.encoding.bytes

/-- The length of an instruction in bytes (R80, R115). -/
def Instr.length (i : Instr) : Nat := (encode i).length

/-! ## Words numbered as spec/opcode_table.json numbers them -/

/-- The three bytes of the instruction a table word stands for, zeros above `nbits` (log entry 11). The table reads
the two bytes of an extended row as ONE number with the prefix in bits 15..8; any other word has its first byte in
bits 7..0. -/
def tableWordBytes (nbits w : Nat) : Byte × Byte × Byte :=
  let v := w % 2 ^ nbits
  if nbits == 16 && v / 256 == 0xCB then (0xCB, BitVec.ofNat 8 v, 0)
  else (BitVec.ofNat 8 v, BitVec.ofNat 8 (v / 256), BitVec.ofNat 8 (v / 65536))

/-- The instruction the decoder reads from a table word; none where it refuses. -/
def decodeTableWord (nbits w : Nat) : Option Instr :=
  match tableWordBytes nbits w with
  | (b0, b1, b2) =>
    match decodeWindow b0 b1 b2 with
    | .ok (i, _) => some i
    | .error _ => none

end Sys2Proof
end

