-- ==== Sys2Proof/Machine/Flags.lean ====
section
/-! DEFINITION. The flag register's fields and every flag computation the spec gives: the 8-bit ALU functions
(43_alu8.md rule R180), INC and DEC (R205, R207), DAA (R209), the shift function (45_rotate_shift_bit.md rule R240),
16-bit addition (44_alu16.md rule R220) and the SP+e8 flags (R223). Arithmetic is exact on integers and the
result is truncated (00_scope.md rule R11). -/

namespace Sys2Proof.Machine

/-! ## The fields of F (10_state.md R24) -/

def Flags.z (f : Byte) : Bool := f.getLsbD 7
def Flags.n (f : Byte) : Bool := f.getLsbD 6
def Flags.h (f : Byte) : Bool := f.getLsbD 5
def Flags.c (f : Byte) : Bool := f.getLsbD 4

/-- One flag at its bit position. -/
def Flags.bit (v : Bool) (pos : Nat) : Byte := if v then 1 <<< pos else 0

/-- Write the four flags of `f`. Flag writes change only bits 7..4 (10_state.md R25); a flag an instruction leaves
unchanged is written with its old value. -/
def Flags.write (f : Byte) (z n h c : Bool) : Byte :=
  (f &&& 0x0F) ||| (Flags.bit z 7 ||| Flags.bit n 6 ||| Flags.bit h 5 ||| Flags.bit c 4)

/-! ## Results with flags -/

/-- A result byte and the four flag values. -/
structure AluOut where
  res : Byte
  z : Bool
  n : Bool
  h : Bool
  c : Bool
  deriving DecidableEq, Repr

/-- `trunc8` of an integer (00_scope.md R11). -/
def trunc8 (r : Int) : Byte := BitVec.ofInt 8 r

/-- `add8` (43_alu8.md R180). -/
def add8 (a b : Byte) (ci : Bool) : AluOut :=
  let r := a.toNat + b.toNat + ci.toNat
  { res := BitVec.ofNat 8 r
    z := BitVec.ofNat 8 r == 0
    n := false
    h := decide (a.toNat % 16 + b.toNat % 16 + ci.toNat > 0xF)
    c := decide (r > 0xFF) }

/-- `sub8` (43_alu8.md R180). -/
def sub8 (a b : Byte) (ci : Bool) : AluOut :=
  let r : Int := (a.toNat : Int) - b.toNat - ci.toNat
  { res := trunc8 r
    z := trunc8 r == 0
    n := true
    h := decide (((a.toNat % 16 : Nat) : Int) - (b.toNat % 16 : Nat) - ci.toNat < 0)
    c := decide (r < 0) }

/-- `and8` (43_alu8.md R180). -/
def and8 (a b : Byte) : AluOut :=
  { res := a &&& b, z := (a &&& b) == 0, n := false, h := true, c := false }

/-- `xor8` (43_alu8.md R180). -/
def xor8 (a b : Byte) : AluOut :=
  { res := a ^^^ b, z := (a ^^^ b) == 0, n := false, h := false, c := false }

/-- `or8` (43_alu8.md R180). -/
def or8 (a b : Byte) : AluOut :=
  { res := a ||| b, z := (a ||| b) == 0, n := false, h := false, c := false }

/-- The increment of R205 and R206; the carry `c` is not changed. -/
def inc8 (v : Byte) (c : Bool) : AluOut :=
  { res := v + 1, z := v + 1 == 0, n := false, h := v &&& 0xF == 0xF, c := c }

/-- The decrement of R207 and R208; the carry `c` is not changed. -/
def dec8 (v : Byte) (c : Bool) : AluOut :=
  { res := v - 1, z := v - 1 == 0, n := true, h := v &&& 0xF == 0x0, c := c }

/-- The decimal adjustment of R209, on the exact integer `a` (log entry 17): the adjusted integer and the carry. -/
def daaAdjust (a : Nat) (n h c : Bool) : Int × Bool :=
  if n then
    let a₁ : Int := if c then (a : Int) - 0x60 else a
    let a₂ : Int := if h then a₁ - 0x06 else a₁
    (a₂, c)
  else
    let high := c || decide (a > 0x99)
    let a₁ : Nat := if high then a + 0x60 else a
    let a₂ : Nat := if h || decide (a₁ % 16 > 0x09) then a₁ + 0x06 else a₁
    (a₂, high)

/-- `DAA` (R209): N is not changed, H is cleared. -/
def daa (a : Byte) (n h c : Bool) : AluOut :=
  let r := daaAdjust a.toNat n h c
  { res := trunc8 r.1, z := trunc8 r.1 == 0, n := n, h := false, c := r.2 }

/-! ## Rotates and shifts -/

/-- The operations of the shift function (45_rotate_shift_bit.md R240). -/
inductive ShiftOp where
  | rlc | rrc | rl | rr | sla | sra | swap | srl
  deriving DecidableEq, Repr

/-- `sh(op, x, c)`: the result and the bit shifted out (R240). -/
def sh (op : ShiftOp) (x : Byte) (c : Bool) : Byte × Bool :=
  match op with
  | .rlc => ((x <<< 1) ||| (x >>> 7), x.getLsbD 7)
  | .rrc => ((x >>> 1) ||| ((x &&& 1) <<< 7), x.getLsbD 0)
  | .rl => ((x <<< 1) ||| Flags.bit c 0, x.getLsbD 7)
  | .rr => ((x >>> 1) ||| Flags.bit c 7, x.getLsbD 0)
  | .sla => (x <<< 1, x.getLsbD 7)
  | .sra => ((x >>> 1) ||| (x &&& 0x80), x.getLsbD 0)
  | .swap => ((x <<< 4) ||| (x >>> 4), false)
  | .srl => (x >>> 1, x.getLsbD 0)

/-- An extended-space shift with its flags (R240). -/
def shiftOut (op : ShiftOp) (x : Byte) (c : Bool) : AluOut :=
  { res := (sh op x c).1, z := (sh op x c).1 == 0, n := false, h := false, c := (sh op x c).2 }

/-- An accumulator rotate with its flags: the same, but Z is cleared always (R240). -/
def rotateAOut (op : ShiftOp) (x : Byte) (c : Bool) : AluOut :=
  { shiftOut op x c with z := false }

/-! ## 16-bit sums -/

/-- A result word and two flag values. -/
structure SumOut where
  res : Word
  h : Bool
  c : Bool
  deriving DecidableEq, Repr

/-- The sum of `ADD HL, r16`: carries out of bits 11 and 15 (44_alu16.md R220). -/
def add16 (a b : Word) : SumOut :=
  { res := a + b
    h := decide (a.toNat % 4096 + b.toNat % 4096 > 0x0FFF)
    c := decide (a.toNat + b.toNat > 0xFFFF) }

/-- SP plus a signed offset: the flags are those of the unsigned sum of the low byte of SP and the raw operand byte,
whatever the sign of `e8` (44_alu16.md R223, 42_load16_stack.md R163). -/
def addSpE8 (sp e8 : Word) : SumOut :=
  { res := sp + e8
    h := decide (sp.toNat % 16 + (lo e8).toNat % 16 > 0x0F)
    c := decide (sp.toNat % 256 + (lo e8).toNat > 0xFF) }

end Sys2Proof.Machine
end

