-- ==== Sys2Proof/Machine/Ops.lean ====
section
/-! DEFINITION. The named operations over memory and registers: the memory primitives of 00_scope.md rule R13 over the
machine's Bus (20_memory.md rule R50), the stack, taking an interrupt (60_exceptions.md rule R327) and returning
from one (46_control.md rule R279). -/

namespace Sys2Proof.Machine

/-- What an instruction's meaning and a step answer. -/
abbrev Result := Host.Outcome State Fault Refusal

/-! ## Memory: each is one transaction of the machine's Bus (20_memory.md R58) -/

/-- `Bus.peek` (20_memory.md R50). -/
def State.peek (s : State) (a : Word) : Byte := (busOf s.cfg.bus).peek s.m a

/-- The byte `MemRead(a, 1)` returns (00_scope.md R13). -/
def State.readByte (s : State) (a : Word) : Byte := ((busOf s.cfg.bus).read s.m a).1

/-- The state `MemRead(a, 1)` leaves: the Bus may change its own state, nothing else changes. -/
def State.afterRead (s : State) (a : Word) : State := { s with m := ((busOf s.cfg.bus).read s.m a).2 }

/-- `MemWrite(a, 1, v)`: store the byte and emit one MemoryWrite event with the old value peeked before the write
(00_scope.md R13, 20_memory.md R57). -/
def State.memWrite (s : State) (a : Word) (v : Byte) : State :=
  { s with m := (busOf s.cfg.bus).write s.m a v, writes := s.writes ++ [⟨a, s.peek a, v⟩] }

/-- `MemWrite(a, 2, v)`: the low byte first (00_scope.md R13). -/
def State.memWrite16 (s : State) (a v : Word) : State :=
  (s.memWrite a (lo v)).memWrite (a + 1) (hi v)

/-! ## Registers -/

/-- `x[r]` (00_scope.md R12). -/
def State.reg (s : State) : Reg8 → Byte
  | .a => s.a
  | .b => s.b
  | .c => s.c
  | .d => s.d
  | .e => s.e
  | .h => s.h
  | .l => s.l

/-- `x[r] <- v`. -/
def State.setReg (s : State) : Reg8 → Byte → State
  | .a, v => { s with a := v }
  | .b, v => { s with b := v }
  | .c, v => { s with c := v }
  | .d, v => { s with d := v }
  | .e, v => { s with e := v }
  | .h, v => { s with h := v }
  | .l, v => { s with l := v }

/-- The pairs (10_state.md R21): the first-named register is the high byte. -/
def State.af (s : State) : Word := concat s.a s.f
def State.bc (s : State) : Word := concat s.b s.c
def State.de (s : State) : Word := concat s.d s.e
def State.hl (s : State) : Word := concat s.h s.l

/-- Writing a pair writes both halves (10_state.md R21). -/
def State.setBC (s : State) (v : Word) : State := { s with b := hi v, c := lo v }
def State.setDE (s : State) (v : Word) : State := { s with d := hi v, e := lo v }
def State.setHL (s : State) (v : Word) : State := { s with h := hi v, l := lo v }

/-- `POP AF`'s write: bits 3..0 of F stay 0 (42_load16_stack.md R167). -/
def State.setAF (s : State) (v : Word) : State := { s with a := hi v, f := lo v &&& 0xF0 }

/-- Write the four flags (10_state.md R25). -/
def State.setFlags (s : State) (z n h c : Bool) : State := { s with f := Flags.write s.f z n h c }

/-! ## The stack (00_scope.md R13, 20_memory.md R69) -/

/-- `Push16(v)`: the high byte at SP-1 first, then the low byte at SP-2. -/
def State.push16 (s : State) (v : Word) : State :=
  let s₁ := { s with sp := s.sp - 1 }
  let s₂ := s₁.memWrite s₁.sp (hi v)
  let s₃ := { s₂ with sp := s₂.sp - 1 }
  s₃.memWrite s₃.sp (lo v)

/-- `Pop16()`: the low byte from SP, the high byte from SP+1, SP up by 2. -/
def State.pop16 (s : State) : Word × State :=
  let l := s.readByte s.sp
  let s₁ := { s.afterRead s.sp with sp := s.sp + 1 }
  let h := s₁.readByte s₁.sp
  (concat h l, { s₁.afterRead s₁.sp with sp := s₁.sp + 1 })

/-- `PC <- Pop16()`. -/
def State.popPC (s : State) : State := { s.pop16.2 with pc := s.pop16.1 }

/-- `Push16(PC); PC <- target`. -/
def State.call (s : State) (target : Word) : State := { s.push16 s.pc with pc := target }

/-! ## Interrupts (60_exceptions.md R321 to R327) -/

/-- The address of IE. -/
def ieAddr : Word := 0xFFFF

/-- The address of IF. -/
def ifAddr : Word := 0xFF0F

/-- `pending(s)`: IE & IF, bits 4..0, read with peek (30_encoding.md R102). -/
def State.pending (s : State) : Byte := s.peek ieAddr &&& s.peek ifAddr &&& 0x1F

/-- The bit of a source in IE and IF (R321). -/
def Irq.bit : Irq → Nat
  | .vblank => 0
  | .lcdStat => 1
  | .timer => 2
  | .serial => 3
  | .joypad => 4

/-- The vector of a source, `0x0040 + 8 * k` (R325). -/
def Irq.vector (k : Irq) : Word := BitVec.ofNat 16 (0x0040 + 8 * k.bit)

/-- The pending interrupt with the lowest bit number (R324). -/
def firstIrq (pending : Byte) : Option Irq :=
  [Irq.vblank, .lcdStat, .timer, .serial, .joypad].find? (fun k => pending.getLsbD k.bit)

/-- The interrupt this step takes, if it takes one: `IRQ_DISPATCH`, `IME = 1` and `pending(s) != 0` (R323, R324). -/
def State.irqToTake (s : State) : Option Irq :=
  if s.cfg.irqDispatch && s.ime then firstIrq s.pending else none

/-- Taking an interrupt (R327): IME and `ei_pending` cleared, PC pushed, the IF bit cleared, PC at the vector. Only PC
is saved. The IF byte is peeked after the pushes, as R327 writes it. -/
def State.interruptEntry (s : State) (k : Irq) : State :=
  let s₁ := { s with ime := false, eiPending := false }
  let s₂ := s₁.push16 s₁.pc
  let s₃ := s₂.memWrite ifAddr (s₂.peek ifAddr &&& ~~~((1 : Byte) <<< k.bit))
  { s₃ with pc := k.vector }

/-- The return from an interrupt (46_control.md R279, 60_exceptions.md R329): PC popped and IME set at once;
`ei_pending` is not changed. -/
def State.interruptReturn (s : State) : State := { s.popPC with ime := true }

end Sys2Proof.Machine
end

