-- ==== Sys2Proof/Machine/Operands.lean ====
section
/-! DEFINITION. The operand forms: what each operand type of 30_encoding.md rule R84 reads, writes or addresses, and
the shared shapes of instruction over them (43_alu8.md rule R180's three sources, 20_memory.md rule R58's
read-modify-write at HL). -/

namespace Sys2Proof

/-! ## Bit numbers and vectors -/

/-- The bit number (30_encoding.md R84). -/
def Bit3.index : Bit3 → Nat
  | .b0 => 0
  | .b1 => 1
  | .b2 => 2
  | .b3 => 3
  | .b4 => 4
  | .b5 => 5
  | .b6 => 6
  | .b7 => 7

/-- The restart address `8 * ttt` (46_control.md R280). -/
def Rst.address : Rst → Word
  | .v00 => 0x0000
  | .v08 => 0x0008
  | .v10 => 0x0010
  | .v18 => 0x0018
  | .v20 => 0x0020
  | .v28 => 0x0028
  | .v30 => 0x0030
  | .v38 => 0x0038

end Sys2Proof

namespace Sys2Proof.Machine

/-! ## Pairs -/

/-- `x[r16]`; SP for code 11 (44_alu16.md R220). -/
def State.r16 (s : State) : R16 → Word
  | .bc => s.bc
  | .de => s.de
  | .hl => s.hl
  | .sp => s.sp

/-- `x[r16] <- v`; for SP, `SP <- v` (42_load16_stack.md R160). -/
def State.setR16 (s : State) : R16 → Word → State
  | .bc, v => s.setBC v
  | .de, v => s.setDE v
  | .hl, v => s.setHL v
  | .sp, v => { s with sp := v }

/-- `x[r16stk]` (42_load16_stack.md R164). -/
def State.r16Stk (s : State) : R16Stk → Word
  | .bc => s.bc
  | .de => s.de
  | .hl => s.hl

/-- `x[r16stk] <- v` (42_load16_stack.md R166). -/
def State.setR16Stk (s : State) : R16Stk → Word → State
  | .bc, v => s.setBC v
  | .de, v => s.setDE v
  | .hl, v => s.setHL v

/-- The pointer `x[r16ptr]` (41_load8.md R135). -/
def State.r16Ptr (s : State) : R16Ptr → Word
  | .bc => s.bc
  | .de => s.de

/-- The address `0xFF00 + v` of the `LDH` forms (41_load8.md R143 to R146). -/
def highPage (v : Byte) : Word := concat 0xFF v

/-! ## Conditions -/

/-- The truth of a condition (10_state.md R27). -/
def State.cond (s : State) : Cond → Bool
  | .nz => !Flags.z s.f
  | .z => Flags.z s.f
  | .nc => !Flags.c s.f
  | .c => Flags.c s.f

/-! ## Shared shapes -/

/-- Write a result's four flags. -/
def State.putFlags (s : State) (o : AluOut) : State := s.setFlags o.z o.n o.h o.c

/-- The result to a register, and the four flags. -/
def State.putReg (s : State) (r : Reg8) (o : AluOut) : State := (s.setReg r o.res).putFlags o

/-- The result to memory at HL (one write), and the four flags (20_memory.md R58). -/
def State.putAtHL (s : State) (o : AluOut) : State := (s.memWrite s.hl o.res).putFlags o

/-- The byte read at HL. -/
def State.atHL (s : State) : Byte := s.readByte s.hl

/-- The state that read leaves. -/
def State.afterHL (s : State) : State := s.afterRead s.hl

end Sys2Proof.Machine
end

