-- ==== Sys2Proof/Machine/Alu16.lean ====
section
/-! DEFINITION. The 16-bit arithmetic (44_alu16.md rules R220 to R224). -/

namespace Sys2Proof.Machine

/-- `ADD HL, r16` (R220): Z is not changed. -/
def addHLR16 (p : R16) (s : State) : Result :=
  let o := add16 s.hl (s.r16 p)
  .next ((s.setHL o.res).setFlags (Flags.z s.f) false o.h o.c)

/-- `INC r16` (R221). -/
def incR16 (p : R16) (s : State) : Result := .next (s.setR16 p (s.r16 p + 1))

/-- `DEC r16` (R222). -/
def decR16 (p : R16) (s : State) : Result := .next (s.setR16 p (s.r16 p - 1))

/-! ## The meanings -/

/-- `ADD HL, BC` (R220). -/
def execAddHLBC (s : State) : Result := addHLR16 .bc s

/-- `ADD HL, DE` (R220). -/
def execAddHLDE (s : State) : Result := addHLR16 .de s

/-- `ADD HL, HL` (R220). -/
def execAddHLHL (s : State) : Result := addHLR16 .hl s

/-- `ADD HL, SP` (R220). -/
def execAddHLSP (s : State) : Result := addHLR16 .sp s

/-- `INC BC` (R221). -/
def execIncBC (s : State) : Result := incR16 .bc s

/-- `INC DE` (R221). -/
def execIncDE (s : State) : Result := incR16 .de s

/-- `INC HL` (R221). -/
def execIncHL (s : State) : Result := incR16 .hl s

/-- `INC SP` (R221). -/
def execIncSP (s : State) : Result := incR16 .sp s

/-- `DEC BC` (R222). -/
def execDecBC (s : State) : Result := decR16 .bc s

/-- `DEC DE` (R222). -/
def execDecDE (s : State) : Result := decR16 .de s

/-- `DEC HL` (R222). -/
def execDecHL (s : State) : Result := decR16 .hl s

/-- `DEC SP` (R222). -/
def execDecSP (s : State) : Result := decR16 .sp s

/-- `ADD SP, e8` (R223). -/
def execAddSPE8 (e : Word) (s : State) : Result :=
  .next ({ s with sp := (addSpE8 s.sp e).res }.setFlags false false (addSpE8 s.sp e).h (addSpE8 s.sp e).c)

end Sys2Proof.Machine
end

