-- ==== Sys2Proof/Machine/Alu8.lean ====
section
/-! DEFINITION. The 8-bit arithmetic and logic (43_alu8.md rules R180 to R213). -/

namespace Sys2Proof.Machine

/-- The eight operations of "ALU A, src" (R180). -/
inductive AluOp where
  | add | adc | sub | sbc | and | xor | or | cp
  deriving DecidableEq, Repr

/-- The ALU function of an operation, with the carry flag as carry-in of `ADC` and `SBC` (R181 to R204). -/
def aluOut (op : AluOp) (a b : Byte) (c : Bool) : AluOut :=
  match op with
  | .add => add8 a b false
  | .adc => add8 a b c
  | .sub => sub8 a b false
  | .sbc => sub8 a b c
  | .and => and8 a b
  | .xor => xor8 a b
  | .or => or8 a b
  | .cp => sub8 a b false

/-- "ALU A, src" with source value `b` (R180): the result to A, but for `CP`, and all four flags. -/
def alu (op : AluOp) (b : Byte) (s : State) : Result :=
  let o := aluOut op s.a b (Flags.c s.f)
  match op with
  | .cp => .next (s.putFlags o)
  | _ => .next (s.putReg .a o)

/-- The `r8` form (R180). -/
def aluR8 (op : AluOp) (r : Reg8) (s : State) : Result := alu op (s.reg r) s

/-- The `[HL]` form (R180). -/
def aluAtHL (op : AluOp) (s : State) : Result := alu op s.atHL s.afterHL

/-- The immediate form (R180). -/
def aluN8 (op : AluOp) (n : Byte) (s : State) : Result := alu op n s

/-- `INC r8` (R205). -/
def incR8 (r : Reg8) (s : State) : Result := .next (s.putReg r (inc8 (s.reg r) (Flags.c s.f)))

/-- `DEC r8` (R207). -/
def decR8 (r : Reg8) (s : State) : Result := .next (s.putReg r (dec8 (s.reg r) (Flags.c s.f)))

/-! ## The meanings -/

/-- `ADD A, B` (R181). -/
def execAddAB (s : State) : Result := aluR8 .add .b s

/-- `ADD A, C` (R181). -/
def execAddAC (s : State) : Result := aluR8 .add .c s

/-- `ADD A, D` (R181). -/
def execAddAD (s : State) : Result := aluR8 .add .d s

/-- `ADD A, E` (R181). -/
def execAddAE (s : State) : Result := aluR8 .add .e s

/-- `ADD A, H` (R181). -/
def execAddAH (s : State) : Result := aluR8 .add .h s

/-- `ADD A, L` (R181). -/
def execAddAL (s : State) : Result := aluR8 .add .l s

/-- `ADD A, A` (R181). -/
def execAddAA (s : State) : Result := aluR8 .add .a s

/-- `ADD A, [HL]` (R182). -/
def execAddAAtHL (s : State) : Result := aluAtHL .add s

/-- `ADD A, n8` (R183). -/
def execAddAN8 (n : Byte) (s : State) : Result := aluN8 .add n s

/-- `ADC A, B` (R184). -/
def execAdcAB (s : State) : Result := aluR8 .adc .b s

/-- `ADC A, C` (R184). -/
def execAdcAC (s : State) : Result := aluR8 .adc .c s

/-- `ADC A, D` (R184). -/
def execAdcAD (s : State) : Result := aluR8 .adc .d s

/-- `ADC A, E` (R184). -/
def execAdcAE (s : State) : Result := aluR8 .adc .e s

/-- `ADC A, H` (R184). -/
def execAdcAH (s : State) : Result := aluR8 .adc .h s

/-- `ADC A, L` (R184). -/
def execAdcAL (s : State) : Result := aluR8 .adc .l s

/-- `ADC A, A` (R184). -/
def execAdcAA (s : State) : Result := aluR8 .adc .a s

/-- `ADC A, [HL]` (R185). -/
def execAdcAAtHL (s : State) : Result := aluAtHL .adc s

/-- `ADC A, n8` (R186). -/
def execAdcAN8 (n : Byte) (s : State) : Result := aluN8 .adc n s

/-- `SUB A, B` (R187). -/
def execSubAB (s : State) : Result := aluR8 .sub .b s

/-- `SUB A, C` (R187). -/
def execSubAC (s : State) : Result := aluR8 .sub .c s

/-- `SUB A, D` (R187). -/
def execSubAD (s : State) : Result := aluR8 .sub .d s

/-- `SUB A, E` (R187). -/
def execSubAE (s : State) : Result := aluR8 .sub .e s

/-- `SUB A, H` (R187). -/
def execSubAH (s : State) : Result := aluR8 .sub .h s

/-- `SUB A, L` (R187). -/
def execSubAL (s : State) : Result := aluR8 .sub .l s

/-- `SUB A, A` (R187). -/
def execSubAA (s : State) : Result := aluR8 .sub .a s

/-- `SUB A, [HL]` (R188). -/
def execSubAAtHL (s : State) : Result := aluAtHL .sub s

/-- `SUB A, n8` (R189). -/
def execSubAN8 (n : Byte) (s : State) : Result := aluN8 .sub n s

/-- `SBC A, B` (R190). -/
def execSbcAB (s : State) : Result := aluR8 .sbc .b s

/-- `SBC A, C` (R190). -/
def execSbcAC (s : State) : Result := aluR8 .sbc .c s

/-- `SBC A, D` (R190). -/
def execSbcAD (s : State) : Result := aluR8 .sbc .d s

/-- `SBC A, E` (R190). -/
def execSbcAE (s : State) : Result := aluR8 .sbc .e s

/-- `SBC A, H` (R190). -/
def execSbcAH (s : State) : Result := aluR8 .sbc .h s

/-- `SBC A, L` (R190). -/
def execSbcAL (s : State) : Result := aluR8 .sbc .l s

/-- `SBC A, A` (R190). -/
def execSbcAA (s : State) : Result := aluR8 .sbc .a s

/-- `SBC A, [HL]` (R191). -/
def execSbcAAtHL (s : State) : Result := aluAtHL .sbc s

/-- `SBC A, n8` (R192). -/
def execSbcAN8 (n : Byte) (s : State) : Result := aluN8 .sbc n s

/-- `AND A, B` (R193). -/
def execAndAB (s : State) : Result := aluR8 .and .b s

/-- `AND A, C` (R193). -/
def execAndAC (s : State) : Result := aluR8 .and .c s

/-- `AND A, D` (R193). -/
def execAndAD (s : State) : Result := aluR8 .and .d s

/-- `AND A, E` (R193). -/
def execAndAE (s : State) : Result := aluR8 .and .e s

/-- `AND A, H` (R193). -/
def execAndAH (s : State) : Result := aluR8 .and .h s

/-- `AND A, L` (R193). -/
def execAndAL (s : State) : Result := aluR8 .and .l s

/-- `AND A, A` (R193). -/
def execAndAA (s : State) : Result := aluR8 .and .a s

/-- `AND A, [HL]` (R194). -/
def execAndAAtHL (s : State) : Result := aluAtHL .and s

/-- `AND A, n8` (R195). -/
def execAndAN8 (n : Byte) (s : State) : Result := aluN8 .and n s

/-- `XOR A, B` (R196). -/
def execXorAB (s : State) : Result := aluR8 .xor .b s

/-- `XOR A, C` (R196). -/
def execXorAC (s : State) : Result := aluR8 .xor .c s

/-- `XOR A, D` (R196). -/
def execXorAD (s : State) : Result := aluR8 .xor .d s

/-- `XOR A, E` (R196). -/
def execXorAE (s : State) : Result := aluR8 .xor .e s

/-- `XOR A, H` (R196). -/
def execXorAH (s : State) : Result := aluR8 .xor .h s

/-- `XOR A, L` (R196). -/
def execXorAL (s : State) : Result := aluR8 .xor .l s

/-- `XOR A, A` (R196). -/
def execXorAA (s : State) : Result := aluR8 .xor .a s

/-- `XOR A, [HL]` (R197). -/
def execXorAAtHL (s : State) : Result := aluAtHL .xor s

/-- `XOR A, n8` (R198). -/
def execXorAN8 (n : Byte) (s : State) : Result := aluN8 .xor n s

/-- `OR A, B` (R199). -/
def execOrAB (s : State) : Result := aluR8 .or .b s

/-- `OR A, C` (R199). -/
def execOrAC (s : State) : Result := aluR8 .or .c s

/-- `OR A, D` (R199). -/
def execOrAD (s : State) : Result := aluR8 .or .d s

/-- `OR A, E` (R199). -/
def execOrAE (s : State) : Result := aluR8 .or .e s

/-- `OR A, H` (R199). -/
def execOrAH (s : State) : Result := aluR8 .or .h s

/-- `OR A, L` (R199). -/
def execOrAL (s : State) : Result := aluR8 .or .l s

/-- `OR A, A` (R199). -/
def execOrAA (s : State) : Result := aluR8 .or .a s

/-- `OR A, [HL]` (R200). -/
def execOrAAtHL (s : State) : Result := aluAtHL .or s

/-- `OR A, n8` (R201). -/
def execOrAN8 (n : Byte) (s : State) : Result := aluN8 .or n s

/-- `CP A, B` (R202). -/
def execCpAB (s : State) : Result := aluR8 .cp .b s

/-- `CP A, C` (R202). -/
def execCpAC (s : State) : Result := aluR8 .cp .c s

/-- `CP A, D` (R202). -/
def execCpAD (s : State) : Result := aluR8 .cp .d s

/-- `CP A, E` (R202). -/
def execCpAE (s : State) : Result := aluR8 .cp .e s

/-- `CP A, H` (R202). -/
def execCpAH (s : State) : Result := aluR8 .cp .h s

/-- `CP A, L` (R202). -/
def execCpAL (s : State) : Result := aluR8 .cp .l s

/-- `CP A, A` (R202). -/
def execCpAA (s : State) : Result := aluR8 .cp .a s

/-- `CP A, [HL]` (R203). -/
def execCpAAtHL (s : State) : Result := aluAtHL .cp s

/-- `CP A, n8` (R204). -/
def execCpAN8 (n : Byte) (s : State) : Result := aluN8 .cp n s

/-- `INC B` (R205). -/
def execIncB (s : State) : Result := incR8 .b s

/-- `INC C` (R205). -/
def execIncC (s : State) : Result := incR8 .c s

/-- `INC D` (R205). -/
def execIncD (s : State) : Result := incR8 .d s

/-- `INC E` (R205). -/
def execIncE (s : State) : Result := incR8 .e s

/-- `INC H` (R205). -/
def execIncH (s : State) : Result := incR8 .h s

/-- `INC L` (R205). -/
def execIncL (s : State) : Result := incR8 .l s

/-- `INC A` (R205). -/
def execIncA (s : State) : Result := incR8 .a s

/-- `INC [HL]` (R206). -/
def execIncAtHL (s : State) : Result := .next (s.afterHL.putAtHL (inc8 s.atHL (Flags.c s.f)))

/-- `DEC B` (R207). -/
def execDecB (s : State) : Result := decR8 .b s

/-- `DEC C` (R207). -/
def execDecC (s : State) : Result := decR8 .c s

/-- `DEC D` (R207). -/
def execDecD (s : State) : Result := decR8 .d s

/-- `DEC E` (R207). -/
def execDecE (s : State) : Result := decR8 .e s

/-- `DEC H` (R207). -/
def execDecH (s : State) : Result := decR8 .h s

/-- `DEC L` (R207). -/
def execDecL (s : State) : Result := decR8 .l s

/-- `DEC A` (R207). -/
def execDecA (s : State) : Result := decR8 .a s

/-- `DEC [HL]` (R208). -/
def execDecAtHL (s : State) : Result := .next (s.afterHL.putAtHL (dec8 s.atHL (Flags.c s.f)))

/-- `DAA` (R209). -/
def execDaa (s : State) : Result := .next (s.putReg .a (daa s.a (Flags.n s.f) (Flags.h s.f) (Flags.c s.f)))

/-- `CPL` (R210). -/
def execCpl (s : State) : Result :=
  .next ({ s with a := s.a ^^^ 0xFF }.setFlags (Flags.z s.f) true true (Flags.c s.f))

/-- `SCF` (R211). -/
def execScf (s : State) : Result := .next (s.setFlags (Flags.z s.f) false false true)

/-- `CCF` (R212). -/
def execCcf (s : State) : Result := .next (s.setFlags (Flags.z s.f) false false (!Flags.c s.f))

end Sys2Proof.Machine
end

