-- ==== Sys2Proof/Machine/Bits.lean ====
section
/-! DEFINITION. The single-bit operations (45_rotate_shift_bit.md rules R261 to R266). -/

namespace Sys2Proof.Machine

/-- The flags of `BIT`: Z is the complement of the bit, N = 0, H = 1, C is not changed (R261, R262). -/
def bitTest (u : Bit3) (v : Byte) (s : State) : Result :=
  .next (s.setFlags (!v.getLsbD u.index) false true (Flags.c s.f))

/-- The byte with one bit cleared (R263). -/
def clearBit (u : Bit3) (v : Byte) : Byte := v &&& ~~~((1 : Byte) <<< u.index)

/-- The byte with one bit set (R265). -/
def setBit (u : Bit3) (v : Byte) : Byte := v ||| ((1 : Byte) <<< u.index)

/-- `BIT u3, r8` (R261). -/
def bitR8 (u : Bit3) (r : Reg8) (s : State) : Result := bitTest u (s.reg r) s

/-- `BIT u3, [HL]` (R262): a read only. -/
def bitAtHL (u : Bit3) (s : State) : Result := bitTest u s.atHL s.afterHL

/-- `RES u3, r8` (R263). -/
def resR8 (u : Bit3) (r : Reg8) (s : State) : Result := .next (s.setReg r (clearBit u (s.reg r)))

/-- `RES u3, [HL]` (R264): the write and its event happen even when the value does not change. -/
def resAtHL (u : Bit3) (s : State) : Result := .next (s.afterHL.memWrite s.hl (clearBit u s.atHL))

/-- `SET u3, r8` (R265). -/
def setR8 (u : Bit3) (r : Reg8) (s : State) : Result := .next (s.setReg r (setBit u (s.reg r)))

/-- `SET u3, [HL]` (R266). -/
def setAtHL (u : Bit3) (s : State) : Result := .next (s.afterHL.memWrite s.hl (setBit u s.atHL))

/-! ## The meanings -/

/-- `BIT 0, B` (R261). -/
def execBit0B (s : State) : Result := bitR8 .b0 .b s

/-- `BIT 0, C` (R261). -/
def execBit0C (s : State) : Result := bitR8 .b0 .c s

/-- `BIT 0, D` (R261). -/
def execBit0D (s : State) : Result := bitR8 .b0 .d s

/-- `BIT 0, E` (R261). -/
def execBit0E (s : State) : Result := bitR8 .b0 .e s

/-- `BIT 0, H` (R261). -/
def execBit0H (s : State) : Result := bitR8 .b0 .h s

/-- `BIT 0, L` (R261). -/
def execBit0L (s : State) : Result := bitR8 .b0 .l s

/-- `BIT 0, A` (R261). -/
def execBit0A (s : State) : Result := bitR8 .b0 .a s

/-- `BIT 1, B` (R261). -/
def execBit1B (s : State) : Result := bitR8 .b1 .b s

/-- `BIT 1, C` (R261). -/
def execBit1C (s : State) : Result := bitR8 .b1 .c s

/-- `BIT 1, D` (R261). -/
def execBit1D (s : State) : Result := bitR8 .b1 .d s

/-- `BIT 1, E` (R261). -/
def execBit1E (s : State) : Result := bitR8 .b1 .e s

/-- `BIT 1, H` (R261). -/
def execBit1H (s : State) : Result := bitR8 .b1 .h s

/-- `BIT 1, L` (R261). -/
def execBit1L (s : State) : Result := bitR8 .b1 .l s

/-- `BIT 1, A` (R261). -/
def execBit1A (s : State) : Result := bitR8 .b1 .a s

/-- `BIT 2, B` (R261). -/
def execBit2B (s : State) : Result := bitR8 .b2 .b s

/-- `BIT 2, C` (R261). -/
def execBit2C (s : State) : Result := bitR8 .b2 .c s

/-- `BIT 2, D` (R261). -/
def execBit2D (s : State) : Result := bitR8 .b2 .d s

/-- `BIT 2, E` (R261). -/
def execBit2E (s : State) : Result := bitR8 .b2 .e s

/-- `BIT 2, H` (R261). -/
def execBit2H (s : State) : Result := bitR8 .b2 .h s

/-- `BIT 2, L` (R261). -/
def execBit2L (s : State) : Result := bitR8 .b2 .l s

/-- `BIT 2, A` (R261). -/
def execBit2A (s : State) : Result := bitR8 .b2 .a s

/-- `BIT 3, B` (R261). -/
def execBit3B (s : State) : Result := bitR8 .b3 .b s

/-- `BIT 3, C` (R261). -/
def execBit3C (s : State) : Result := bitR8 .b3 .c s

/-- `BIT 3, D` (R261). -/
def execBit3D (s : State) : Result := bitR8 .b3 .d s

/-- `BIT 3, E` (R261). -/
def execBit3E (s : State) : Result := bitR8 .b3 .e s

/-- `BIT 3, H` (R261). -/
def execBit3H (s : State) : Result := bitR8 .b3 .h s

/-- `BIT 3, L` (R261). -/
def execBit3L (s : State) : Result := bitR8 .b3 .l s

/-- `BIT 3, A` (R261). -/
def execBit3A (s : State) : Result := bitR8 .b3 .a s

/-- `BIT 4, B` (R261). -/
def execBit4B (s : State) : Result := bitR8 .b4 .b s

/-- `BIT 4, C` (R261). -/
def execBit4C (s : State) : Result := bitR8 .b4 .c s

/-- `BIT 4, D` (R261). -/
def execBit4D (s : State) : Result := bitR8 .b4 .d s

/-- `BIT 4, E` (R261). -/
def execBit4E (s : State) : Result := bitR8 .b4 .e s

/-- `BIT 4, H` (R261). -/
def execBit4H (s : State) : Result := bitR8 .b4 .h s

/-- `BIT 4, L` (R261). -/
def execBit4L (s : State) : Result := bitR8 .b4 .l s

/-- `BIT 4, A` (R261). -/
def execBit4A (s : State) : Result := bitR8 .b4 .a s

/-- `BIT 5, B` (R261). -/
def execBit5B (s : State) : Result := bitR8 .b5 .b s

/-- `BIT 5, C` (R261). -/
def execBit5C (s : State) : Result := bitR8 .b5 .c s

/-- `BIT 5, D` (R261). -/
def execBit5D (s : State) : Result := bitR8 .b5 .d s

/-- `BIT 5, E` (R261). -/
def execBit5E (s : State) : Result := bitR8 .b5 .e s

/-- `BIT 5, H` (R261). -/
def execBit5H (s : State) : Result := bitR8 .b5 .h s

/-- `BIT 5, L` (R261). -/
def execBit5L (s : State) : Result := bitR8 .b5 .l s

/-- `BIT 5, A` (R261). -/
def execBit5A (s : State) : Result := bitR8 .b5 .a s

/-- `BIT 6, B` (R261). -/
def execBit6B (s : State) : Result := bitR8 .b6 .b s

/-- `BIT 6, C` (R261). -/
def execBit6C (s : State) : Result := bitR8 .b6 .c s

/-- `BIT 6, D` (R261). -/
def execBit6D (s : State) : Result := bitR8 .b6 .d s

/-- `BIT 6, E` (R261). -/
def execBit6E (s : State) : Result := bitR8 .b6 .e s

/-- `BIT 6, H` (R261). -/
def execBit6H (s : State) : Result := bitR8 .b6 .h s

/-- `BIT 6, L` (R261). -/
def execBit6L (s : State) : Result := bitR8 .b6 .l s

/-- `BIT 6, A` (R261). -/
def execBit6A (s : State) : Result := bitR8 .b6 .a s

/-- `BIT 7, B` (R261). -/
def execBit7B (s : State) : Result := bitR8 .b7 .b s

/-- `BIT 7, C` (R261). -/
def execBit7C (s : State) : Result := bitR8 .b7 .c s

/-- `BIT 7, D` (R261). -/
def execBit7D (s : State) : Result := bitR8 .b7 .d s

/-- `BIT 7, E` (R261). -/
def execBit7E (s : State) : Result := bitR8 .b7 .e s

/-- `BIT 7, H` (R261). -/
def execBit7H (s : State) : Result := bitR8 .b7 .h s

/-- `BIT 7, L` (R261). -/
def execBit7L (s : State) : Result := bitR8 .b7 .l s

/-- `BIT 7, A` (R261). -/
def execBit7A (s : State) : Result := bitR8 .b7 .a s

/-- `BIT 0, [HL]` (R262). -/
def execBit0AtHL (s : State) : Result := bitAtHL .b0 s

/-- `BIT 1, [HL]` (R262). -/
def execBit1AtHL (s : State) : Result := bitAtHL .b1 s

/-- `BIT 2, [HL]` (R262). -/
def execBit2AtHL (s : State) : Result := bitAtHL .b2 s

/-- `BIT 3, [HL]` (R262). -/
def execBit3AtHL (s : State) : Result := bitAtHL .b3 s

/-- `BIT 4, [HL]` (R262). -/
def execBit4AtHL (s : State) : Result := bitAtHL .b4 s

/-- `BIT 5, [HL]` (R262). -/
def execBit5AtHL (s : State) : Result := bitAtHL .b5 s

/-- `BIT 6, [HL]` (R262). -/
def execBit6AtHL (s : State) : Result := bitAtHL .b6 s

/-- `BIT 7, [HL]` (R262). -/
def execBit7AtHL (s : State) : Result := bitAtHL .b7 s

/-- `RES 0, B` (R263). -/
def execRes0B (s : State) : Result := resR8 .b0 .b s

/-- `RES 0, C` (R263). -/
def execRes0C (s : State) : Result := resR8 .b0 .c s

/-- `RES 0, D` (R263). -/
def execRes0D (s : State) : Result := resR8 .b0 .d s

/-- `RES 0, E` (R263). -/
def execRes0E (s : State) : Result := resR8 .b0 .e s

/-- `RES 0, H` (R263). -/
def execRes0H (s : State) : Result := resR8 .b0 .h s

/-- `RES 0, L` (R263). -/
def execRes0L (s : State) : Result := resR8 .b0 .l s

/-- `RES 0, A` (R263). -/
def execRes0A (s : State) : Result := resR8 .b0 .a s

/-- `RES 1, B` (R263). -/
def execRes1B (s : State) : Result := resR8 .b1 .b s

/-- `RES 1, C` (R263). -/
def execRes1C (s : State) : Result := resR8 .b1 .c s

/-- `RES 1, D` (R263). -/
def execRes1D (s : State) : Result := resR8 .b1 .d s

/-- `RES 1, E` (R263). -/
def execRes1E (s : State) : Result := resR8 .b1 .e s

/-- `RES 1, H` (R263). -/
def execRes1H (s : State) : Result := resR8 .b1 .h s

/-- `RES 1, L` (R263). -/
def execRes1L (s : State) : Result := resR8 .b1 .l s

/-- `RES 1, A` (R263). -/
def execRes1A (s : State) : Result := resR8 .b1 .a s

/-- `RES 2, B` (R263). -/
def execRes2B (s : State) : Result := resR8 .b2 .b s

/-- `RES 2, C` (R263). -/
def execRes2C (s : State) : Result := resR8 .b2 .c s

/-- `RES 2, D` (R263). -/
def execRes2D (s : State) : Result := resR8 .b2 .d s

/-- `RES 2, E` (R263). -/
def execRes2E (s : State) : Result := resR8 .b2 .e s

/-- `RES 2, H` (R263). -/
def execRes2H (s : State) : Result := resR8 .b2 .h s

/-- `RES 2, L` (R263). -/
def execRes2L (s : State) : Result := resR8 .b2 .l s

/-- `RES 2, A` (R263). -/
def execRes2A (s : State) : Result := resR8 .b2 .a s

/-- `RES 3, B` (R263). -/
def execRes3B (s : State) : Result := resR8 .b3 .b s

/-- `RES 3, C` (R263). -/
def execRes3C (s : State) : Result := resR8 .b3 .c s

/-- `RES 3, D` (R263). -/
def execRes3D (s : State) : Result := resR8 .b3 .d s

/-- `RES 3, E` (R263). -/
def execRes3E (s : State) : Result := resR8 .b3 .e s

/-- `RES 3, H` (R263). -/
def execRes3H (s : State) : Result := resR8 .b3 .h s

/-- `RES 3, L` (R263). -/
def execRes3L (s : State) : Result := resR8 .b3 .l s

/-- `RES 3, A` (R263). -/
def execRes3A (s : State) : Result := resR8 .b3 .a s

/-- `RES 4, B` (R263). -/
def execRes4B (s : State) : Result := resR8 .b4 .b s

/-- `RES 4, C` (R263). -/
def execRes4C (s : State) : Result := resR8 .b4 .c s

/-- `RES 4, D` (R263). -/
def execRes4D (s : State) : Result := resR8 .b4 .d s

/-- `RES 4, E` (R263). -/
def execRes4E (s : State) : Result := resR8 .b4 .e s

/-- `RES 4, H` (R263). -/
def execRes4H (s : State) : Result := resR8 .b4 .h s

/-- `RES 4, L` (R263). -/
def execRes4L (s : State) : Result := resR8 .b4 .l s

/-- `RES 4, A` (R263). -/
def execRes4A (s : State) : Result := resR8 .b4 .a s

/-- `RES 5, B` (R263). -/
def execRes5B (s : State) : Result := resR8 .b5 .b s

/-- `RES 5, C` (R263). -/
def execRes5C (s : State) : Result := resR8 .b5 .c s

/-- `RES 5, D` (R263). -/
def execRes5D (s : State) : Result := resR8 .b5 .d s

/-- `RES 5, E` (R263). -/
def execRes5E (s : State) : Result := resR8 .b5 .e s

/-- `RES 5, H` (R263). -/
def execRes5H (s : State) : Result := resR8 .b5 .h s

/-- `RES 5, L` (R263). -/
def execRes5L (s : State) : Result := resR8 .b5 .l s

/-- `RES 5, A` (R263). -/
def execRes5A (s : State) : Result := resR8 .b5 .a s

/-- `RES 6, B` (R263). -/
def execRes6B (s : State) : Result := resR8 .b6 .b s

/-- `RES 6, C` (R263). -/
def execRes6C (s : State) : Result := resR8 .b6 .c s

/-- `RES 6, D` (R263). -/
def execRes6D (s : State) : Result := resR8 .b6 .d s

/-- `RES 6, E` (R263). -/
def execRes6E (s : State) : Result := resR8 .b6 .e s

/-- `RES 6, H` (R263). -/
def execRes6H (s : State) : Result := resR8 .b6 .h s

/-- `RES 6, L` (R263). -/
def execRes6L (s : State) : Result := resR8 .b6 .l s

/-- `RES 6, A` (R263). -/
def execRes6A (s : State) : Result := resR8 .b6 .a s

/-- `RES 7, B` (R263). -/
def execRes7B (s : State) : Result := resR8 .b7 .b s

/-- `RES 7, C` (R263). -/
def execRes7C (s : State) : Result := resR8 .b7 .c s

/-- `RES 7, D` (R263). -/
def execRes7D (s : State) : Result := resR8 .b7 .d s

/-- `RES 7, E` (R263). -/
def execRes7E (s : State) : Result := resR8 .b7 .e s

/-- `RES 7, H` (R263). -/
def execRes7H (s : State) : Result := resR8 .b7 .h s

/-- `RES 7, L` (R263). -/
def execRes7L (s : State) : Result := resR8 .b7 .l s

/-- `RES 7, A` (R263). -/
def execRes7A (s : State) : Result := resR8 .b7 .a s

/-- `RES 0, [HL]` (R264). -/
def execRes0AtHL (s : State) : Result := resAtHL .b0 s

/-- `RES 1, [HL]` (R264). -/
def execRes1AtHL (s : State) : Result := resAtHL .b1 s

/-- `RES 2, [HL]` (R264). -/
def execRes2AtHL (s : State) : Result := resAtHL .b2 s

/-- `RES 3, [HL]` (R264). -/
def execRes3AtHL (s : State) : Result := resAtHL .b3 s

/-- `RES 4, [HL]` (R264). -/
def execRes4AtHL (s : State) : Result := resAtHL .b4 s

/-- `RES 5, [HL]` (R264). -/
def execRes5AtHL (s : State) : Result := resAtHL .b5 s

/-- `RES 6, [HL]` (R264). -/
def execRes6AtHL (s : State) : Result := resAtHL .b6 s

/-- `RES 7, [HL]` (R264). -/
def execRes7AtHL (s : State) : Result := resAtHL .b7 s

/-- `SET 0, B` (R265). -/
def execSet0B (s : State) : Result := setR8 .b0 .b s

/-- `SET 0, C` (R265). -/
def execSet0C (s : State) : Result := setR8 .b0 .c s

/-- `SET 0, D` (R265). -/
def execSet0D (s : State) : Result := setR8 .b0 .d s

/-- `SET 0, E` (R265). -/
def execSet0E (s : State) : Result := setR8 .b0 .e s

/-- `SET 0, H` (R265). -/
def execSet0H (s : State) : Result := setR8 .b0 .h s

/-- `SET 0, L` (R265). -/
def execSet0L (s : State) : Result := setR8 .b0 .l s

/-- `SET 0, A` (R265). -/
def execSet0A (s : State) : Result := setR8 .b0 .a s

/-- `SET 1, B` (R265). -/
def execSet1B (s : State) : Result := setR8 .b1 .b s

/-- `SET 1, C` (R265). -/
def execSet1C (s : State) : Result := setR8 .b1 .c s

/-- `SET 1, D` (R265). -/
def execSet1D (s : State) : Result := setR8 .b1 .d s

/-- `SET 1, E` (R265). -/
def execSet1E (s : State) : Result := setR8 .b1 .e s

/-- `SET 1, H` (R265). -/
def execSet1H (s : State) : Result := setR8 .b1 .h s

/-- `SET 1, L` (R265). -/
def execSet1L (s : State) : Result := setR8 .b1 .l s

/-- `SET 1, A` (R265). -/
def execSet1A (s : State) : Result := setR8 .b1 .a s

/-- `SET 2, B` (R265). -/
def execSet2B (s : State) : Result := setR8 .b2 .b s

/-- `SET 2, C` (R265). -/
def execSet2C (s : State) : Result := setR8 .b2 .c s

/-- `SET 2, D` (R265). -/
def execSet2D (s : State) : Result := setR8 .b2 .d s

/-- `SET 2, E` (R265). -/
def execSet2E (s : State) : Result := setR8 .b2 .e s

/-- `SET 2, H` (R265). -/
def execSet2H (s : State) : Result := setR8 .b2 .h s

/-- `SET 2, L` (R265). -/
def execSet2L (s : State) : Result := setR8 .b2 .l s

/-- `SET 2, A` (R265). -/
def execSet2A (s : State) : Result := setR8 .b2 .a s

/-- `SET 3, B` (R265). -/
def execSet3B (s : State) : Result := setR8 .b3 .b s

/-- `SET 3, C` (R265). -/
def execSet3C (s : State) : Result := setR8 .b3 .c s

/-- `SET 3, D` (R265). -/
def execSet3D (s : State) : Result := setR8 .b3 .d s

/-- `SET 3, E` (R265). -/
def execSet3E (s : State) : Result := setR8 .b3 .e s

/-- `SET 3, H` (R265). -/
def execSet3H (s : State) : Result := setR8 .b3 .h s

/-- `SET 3, L` (R265). -/
def execSet3L (s : State) : Result := setR8 .b3 .l s

/-- `SET 3, A` (R265). -/
def execSet3A (s : State) : Result := setR8 .b3 .a s

/-- `SET 4, B` (R265). -/
def execSet4B (s : State) : Result := setR8 .b4 .b s

/-- `SET 4, C` (R265). -/
def execSet4C (s : State) : Result := setR8 .b4 .c s

/-- `SET 4, D` (R265). -/
def execSet4D (s : State) : Result := setR8 .b4 .d s

/-- `SET 4, E` (R265). -/
def execSet4E (s : State) : Result := setR8 .b4 .e s

/-- `SET 4, H` (R265). -/
def execSet4H (s : State) : Result := setR8 .b4 .h s

/-- `SET 4, L` (R265). -/
def execSet4L (s : State) : Result := setR8 .b4 .l s

/-- `SET 4, A` (R265). -/
def execSet4A (s : State) : Result := setR8 .b4 .a s

/-- `SET 5, B` (R265). -/
def execSet5B (s : State) : Result := setR8 .b5 .b s

/-- `SET 5, C` (R265). -/
def execSet5C (s : State) : Result := setR8 .b5 .c s

/-- `SET 5, D` (R265). -/
def execSet5D (s : State) : Result := setR8 .b5 .d s

/-- `SET 5, E` (R265). -/
def execSet5E (s : State) : Result := setR8 .b5 .e s

/-- `SET 5, H` (R265). -/
def execSet5H (s : State) : Result := setR8 .b5 .h s

/-- `SET 5, L` (R265). -/
def execSet5L (s : State) : Result := setR8 .b5 .l s

/-- `SET 5, A` (R265). -/
def execSet5A (s : State) : Result := setR8 .b5 .a s

/-- `SET 6, B` (R265). -/
def execSet6B (s : State) : Result := setR8 .b6 .b s

/-- `SET 6, C` (R265). -/
def execSet6C (s : State) : Result := setR8 .b6 .c s

/-- `SET 6, D` (R265). -/
def execSet6D (s : State) : Result := setR8 .b6 .d s

/-- `SET 6, E` (R265). -/
def execSet6E (s : State) : Result := setR8 .b6 .e s

/-- `SET 6, H` (R265). -/
def execSet6H (s : State) : Result := setR8 .b6 .h s

/-- `SET 6, L` (R265). -/
def execSet6L (s : State) : Result := setR8 .b6 .l s

/-- `SET 6, A` (R265). -/
def execSet6A (s : State) : Result := setR8 .b6 .a s

/-- `SET 7, B` (R265). -/
def execSet7B (s : State) : Result := setR8 .b7 .b s

/-- `SET 7, C` (R265). -/
def execSet7C (s : State) : Result := setR8 .b7 .c s

/-- `SET 7, D` (R265). -/
def execSet7D (s : State) : Result := setR8 .b7 .d s

/-- `SET 7, E` (R265). -/
def execSet7E (s : State) : Result := setR8 .b7 .e s

/-- `SET 7, H` (R265). -/
def execSet7H (s : State) : Result := setR8 .b7 .h s

/-- `SET 7, L` (R265). -/
def execSet7L (s : State) : Result := setR8 .b7 .l s

/-- `SET 7, A` (R265). -/
def execSet7A (s : State) : Result := setR8 .b7 .a s

/-- `SET 0, [HL]` (R266). -/
def execSet0AtHL (s : State) : Result := setAtHL .b0 s

/-- `SET 1, [HL]` (R266). -/
def execSet1AtHL (s : State) : Result := setAtHL .b1 s

/-- `SET 2, [HL]` (R266). -/
def execSet2AtHL (s : State) : Result := setAtHL .b2 s

/-- `SET 3, [HL]` (R266). -/
def execSet3AtHL (s : State) : Result := setAtHL .b3 s

/-- `SET 4, [HL]` (R266). -/
def execSet4AtHL (s : State) : Result := setAtHL .b4 s

/-- `SET 5, [HL]` (R266). -/
def execSet5AtHL (s : State) : Result := setAtHL .b5 s

/-- `SET 6, [HL]` (R266). -/
def execSet6AtHL (s : State) : Result := setAtHL .b6 s

/-- `SET 7, [HL]` (R266). -/
def execSet7AtHL (s : State) : Result := setAtHL .b7 s

end Sys2Proof.Machine
end

