-- ==== Sys2Proof/Machine/Control.lean ====
section
/-! DEFINITION. The control transfers (46_control.md rules R270 to R282). While an instruction executes, PC already
holds the address of the next instruction (10_state.md R29). -/

namespace Sys2Proof.Machine

/-- `JP cc, n16` (R271). -/
def jpCc (cc : Cond) (n : Word) (s : State) : Result := .next (if s.cond cc then { s with pc := n } else s)

/-- `JR cc, e8` (R274). -/
def jrCc (cc : Cond) (e : Word) (s : State) : Result := .next (if s.cond cc then { s with pc := s.pc + e } else s)

/-- `CALL cc, n16` (R276). -/
def callCc (cc : Cond) (n : Word) (s : State) : Result := .next (if s.cond cc then s.call n else s)

/-- `RET cc` (R278). -/
def retCc (cc : Cond) (s : State) : Result := .next (if s.cond cc then s.popPC else s)

/-- `RST vec` (R280). -/
def rstVec (v : Rst) (s : State) : Result := .next (s.call v.address)

/-! ## The meanings -/

/-- `JP n16` (R270). -/
def execJpN16 (n : Word) (s : State) : Result := .next { s with pc := n }

/-- `JP NZ, n16` (R271). -/
def execJpNZN16 (n : Word) (s : State) : Result := jpCc .nz n s

/-- `JP Z, n16` (R271). -/
def execJpZN16 (n : Word) (s : State) : Result := jpCc .z n s

/-- `JP NC, n16` (R271). -/
def execJpNCN16 (n : Word) (s : State) : Result := jpCc .nc n s

/-- `JP C, n16` (R271). -/
def execJpCN16 (n : Word) (s : State) : Result := jpCc .c n s

/-- `JP HL` (R272). -/
def execJpHL (s : State) : Result := .next { s with pc := s.hl }

/-- `JR e8` (R273). -/
def execJrE8 (e : Word) (s : State) : Result := .next { s with pc := s.pc + e }

/-- `JR NZ, e8` (R274). -/
def execJrNZE8 (e : Word) (s : State) : Result := jrCc .nz e s

/-- `JR Z, e8` (R274). -/
def execJrZE8 (e : Word) (s : State) : Result := jrCc .z e s

/-- `JR NC, e8` (R274). -/
def execJrNCE8 (e : Word) (s : State) : Result := jrCc .nc e s

/-- `JR C, e8` (R274). -/
def execJrCE8 (e : Word) (s : State) : Result := jrCc .c e s

/-- `CALL n16` (R275). -/
def execCallN16 (n : Word) (s : State) : Result := .next (s.call n)

/-- `CALL NZ, n16` (R276). -/
def execCallNZN16 (n : Word) (s : State) : Result := callCc .nz n s

/-- `CALL Z, n16` (R276). -/
def execCallZN16 (n : Word) (s : State) : Result := callCc .z n s

/-- `CALL NC, n16` (R276). -/
def execCallNCN16 (n : Word) (s : State) : Result := callCc .nc n s

/-- `CALL C, n16` (R276). -/
def execCallCN16 (n : Word) (s : State) : Result := callCc .c n s

/-- `RET` (R277). -/
def execRet (s : State) : Result := .next s.popPC

/-- `RET NZ` (R278). -/
def execRetNZ (s : State) : Result := retCc .nz s

/-- `RET Z` (R278). -/
def execRetZ (s : State) : Result := retCc .z s

/-- `RET NC` (R278). -/
def execRetNC (s : State) : Result := retCc .nc s

/-- `RET C` (R278). -/
def execRetC (s : State) : Result := retCc .c s

/-- `RETI` (R279). -/
def execReti (s : State) : Result := .next s.interruptReturn

/-- `RST $00` (R280). -/
def execRst00 (s : State) : Result := rstVec .v00 s

/-- `RST $08` (R280). -/
def execRst08 (s : State) : Result := rstVec .v08 s

/-- `RST $10` (R280). -/
def execRst10 (s : State) : Result := rstVec .v10 s

/-- `RST $18` (R280). -/
def execRst18 (s : State) : Result := rstVec .v18 s

/-- `RST $20` (R280). -/
def execRst20 (s : State) : Result := rstVec .v20 s

/-- `RST $28` (R280). -/
def execRst28 (s : State) : Result := rstVec .v28 s

/-- `RST $30` (R280). -/
def execRst30 (s : State) : Result := rstVec .v30 s

/-- `RST $38` (R280). -/
def execRst38 (s : State) : Result := rstVec .v38 s

end Sys2Proof.Machine
end

