-- ==== Sys2Proof/Machine/Load16.lean ====
section
/-! DEFINITION. The 16-bit loads and the stack operations (42_load16_stack.md rules R160 to R167). -/

namespace Sys2Proof.Machine

/-- `LD r16, n16` (R160). -/
def ldR16N16 (p : R16) (n : Word) (s : State) : Result := .next (s.setR16 p n)

/-- `PUSH r16stk` (R164). -/
def pushR16 (p : R16Stk) (s : State) : Result := .next (s.push16 (s.r16Stk p))

/-- `POP r16stk` (R166). -/
def popR16 (p : R16Stk) (s : State) : Result := .next (s.pop16.2.setR16Stk p s.pop16.1)

/-! ## The meanings -/

/-- `LD BC, n16` (R160). -/
def execLdBCN16 (n : Word) (s : State) : Result := ldR16N16 .bc n s

/-- `LD DE, n16` (R160). -/
def execLdDEN16 (n : Word) (s : State) : Result := ldR16N16 .de n s

/-- `LD HL, n16` (R160). -/
def execLdHLN16 (n : Word) (s : State) : Result := ldR16N16 .hl n s

/-- `LD SP, n16` (R160). -/
def execLdSPN16 (n : Word) (s : State) : Result := ldR16N16 .sp n s

/-- `LD [n16], SP` (R161). -/
def execLdAtN16SP (n : Word) (s : State) : Result := .next (s.memWrite16 n s.sp)

/-- `LD SP, HL` (R162). -/
def execLdSPHL (s : State) : Result := .next { s with sp := s.hl }

/-- `LD HL, SP+e8` (R163). -/
def execLdHLSPE8 (e : Word) (s : State) : Result :=
  .next ((s.setHL (addSpE8 s.sp e).res).setFlags false false (addSpE8 s.sp e).h (addSpE8 s.sp e).c)

/-- `PUSH BC` (R164). -/
def execPushBC (s : State) : Result := pushR16 .bc s

/-- `PUSH DE` (R164). -/
def execPushDE (s : State) : Result := pushR16 .de s

/-- `PUSH HL` (R164). -/
def execPushHL (s : State) : Result := pushR16 .hl s

/-- `PUSH AF` (R165). -/
def execPushAF (s : State) : Result := .next (s.push16 s.af)

/-- `POP BC` (R166). -/
def execPopBC (s : State) : Result := popR16 .bc s

/-- `POP DE` (R166). -/
def execPopDE (s : State) : Result := popR16 .de s

/-- `POP HL` (R166). -/
def execPopHL (s : State) : Result := popR16 .hl s

/-- `POP AF` (R167). -/
def execPopAF (s : State) : Result := .next (s.pop16.2.setAF s.pop16.1)

end Sys2Proof.Machine
end

