-- ==== Sys2Proof/Machine/Load8.lean ====
section
/-! DEFINITION. The 8-bit loads (41_load8.md rules R130 to R146). No instruction here writes F. -/

namespace Sys2Proof.Machine

/-- `LD r8d, r8s` (R130). -/
def ldR8R8 (dst src : Reg8) (s : State) : Result := .next (s.setReg dst (s.reg src))

/-- `LD r8, n8` (R131). -/
def ldR8N8 (dst : Reg8) (n : Byte) (s : State) : Result := .next (s.setReg dst n)

/-- `LD r8, [HL]` (R132): the address is read before half of HL may be overwritten. -/
def ldR8AtHL (dst : Reg8) (s : State) : Result := .next (s.afterHL.setReg dst s.atHL)

/-- `LD [HL], r8` (R133). -/
def ldAtHLR8 (src : Reg8) (s : State) : Result := .next (s.memWrite s.hl (s.reg src))

/-- A from the byte at an address. -/
def loadA (x : Word) (s : State) : Result := .next { s.afterRead x with a := s.readByte x }

/-- `LD A, [r16ptr]` (R135). -/
def ldAAtPtr (p : R16Ptr) (s : State) : Result := loadA (s.r16Ptr p) s

/-- `LD [r16ptr], A` (R136). -/
def ldAtPtrA (p : R16Ptr) (s : State) : Result := .next (s.memWrite (s.r16Ptr p) s.a)

/-! ## The meanings -/

/-- `LD B, B` (R130). -/
def execLdBB (s : State) : Result := ldR8R8 .b .b s

/-- `LD B, C` (R130). -/
def execLdBC (s : State) : Result := ldR8R8 .b .c s

/-- `LD B, D` (R130). -/
def execLdBD (s : State) : Result := ldR8R8 .b .d s

/-- `LD B, E` (R130). -/
def execLdBE (s : State) : Result := ldR8R8 .b .e s

/-- `LD B, H` (R130). -/
def execLdBH (s : State) : Result := ldR8R8 .b .h s

/-- `LD B, L` (R130). -/
def execLdBL (s : State) : Result := ldR8R8 .b .l s

/-- `LD B, A` (R130). -/
def execLdBA (s : State) : Result := ldR8R8 .b .a s

/-- `LD C, B` (R130). -/
def execLdCB (s : State) : Result := ldR8R8 .c .b s

/-- `LD C, C` (R130). -/
def execLdCC (s : State) : Result := ldR8R8 .c .c s

/-- `LD C, D` (R130). -/
def execLdCD (s : State) : Result := ldR8R8 .c .d s

/-- `LD C, E` (R130). -/
def execLdCE (s : State) : Result := ldR8R8 .c .e s

/-- `LD C, H` (R130). -/
def execLdCH (s : State) : Result := ldR8R8 .c .h s

/-- `LD C, L` (R130). -/
def execLdCL (s : State) : Result := ldR8R8 .c .l s

/-- `LD C, A` (R130). -/
def execLdCA (s : State) : Result := ldR8R8 .c .a s

/-- `LD D, B` (R130). -/
def execLdDB (s : State) : Result := ldR8R8 .d .b s

/-- `LD D, C` (R130). -/
def execLdDC (s : State) : Result := ldR8R8 .d .c s

/-- `LD D, D` (R130). -/
def execLdDD (s : State) : Result := ldR8R8 .d .d s

/-- `LD D, E` (R130). -/
def execLdDE (s : State) : Result := ldR8R8 .d .e s

/-- `LD D, H` (R130). -/
def execLdDH (s : State) : Result := ldR8R8 .d .h s

/-- `LD D, L` (R130). -/
def execLdDL (s : State) : Result := ldR8R8 .d .l s

/-- `LD D, A` (R130). -/
def execLdDA (s : State) : Result := ldR8R8 .d .a s

/-- `LD E, B` (R130). -/
def execLdEB (s : State) : Result := ldR8R8 .e .b s

/-- `LD E, C` (R130). -/
def execLdEC (s : State) : Result := ldR8R8 .e .c s

/-- `LD E, D` (R130). -/
def execLdED (s : State) : Result := ldR8R8 .e .d s

/-- `LD E, E` (R130). -/
def execLdEE (s : State) : Result := ldR8R8 .e .e s

/-- `LD E, H` (R130). -/
def execLdEH (s : State) : Result := ldR8R8 .e .h s

/-- `LD E, L` (R130). -/
def execLdEL (s : State) : Result := ldR8R8 .e .l s

/-- `LD E, A` (R130). -/
def execLdEA (s : State) : Result := ldR8R8 .e .a s

/-- `LD H, B` (R130). -/
def execLdHB (s : State) : Result := ldR8R8 .h .b s

/-- `LD H, C` (R130). -/
def execLdHC (s : State) : Result := ldR8R8 .h .c s

/-- `LD H, D` (R130). -/
def execLdHD (s : State) : Result := ldR8R8 .h .d s

/-- `LD H, E` (R130). -/
def execLdHE (s : State) : Result := ldR8R8 .h .e s

/-- `LD H, H` (R130). -/
def execLdHH (s : State) : Result := ldR8R8 .h .h s

/-- `LD H, L` (R130). -/
def execLdHL (s : State) : Result := ldR8R8 .h .l s

/-- `LD H, A` (R130). -/
def execLdHA (s : State) : Result := ldR8R8 .h .a s

/-- `LD L, B` (R130). -/
def execLdLB (s : State) : Result := ldR8R8 .l .b s

/-- `LD L, C` (R130). -/
def execLdLC (s : State) : Result := ldR8R8 .l .c s

/-- `LD L, D` (R130). -/
def execLdLD (s : State) : Result := ldR8R8 .l .d s

/-- `LD L, E` (R130). -/
def execLdLE (s : State) : Result := ldR8R8 .l .e s

/-- `LD L, H` (R130). -/
def execLdLH (s : State) : Result := ldR8R8 .l .h s

/-- `LD L, L` (R130). -/
def execLdLL (s : State) : Result := ldR8R8 .l .l s

/-- `LD L, A` (R130). -/
def execLdLA (s : State) : Result := ldR8R8 .l .a s

/-- `LD A, B` (R130). -/
def execLdAB (s : State) : Result := ldR8R8 .a .b s

/-- `LD A, C` (R130). -/
def execLdAC (s : State) : Result := ldR8R8 .a .c s

/-- `LD A, D` (R130). -/
def execLdAD (s : State) : Result := ldR8R8 .a .d s

/-- `LD A, E` (R130). -/
def execLdAE (s : State) : Result := ldR8R8 .a .e s

/-- `LD A, H` (R130). -/
def execLdAH (s : State) : Result := ldR8R8 .a .h s

/-- `LD A, L` (R130). -/
def execLdAL (s : State) : Result := ldR8R8 .a .l s

/-- `LD A, A` (R130). -/
def execLdAA (s : State) : Result := ldR8R8 .a .a s

/-- `LD B, n8` (R131). -/
def execLdBN8 (n : Byte) (s : State) : Result := ldR8N8 .b n s

/-- `LD C, n8` (R131). -/
def execLdCN8 (n : Byte) (s : State) : Result := ldR8N8 .c n s

/-- `LD D, n8` (R131). -/
def execLdDN8 (n : Byte) (s : State) : Result := ldR8N8 .d n s

/-- `LD E, n8` (R131). -/
def execLdEN8 (n : Byte) (s : State) : Result := ldR8N8 .e n s

/-- `LD H, n8` (R131). -/
def execLdHN8 (n : Byte) (s : State) : Result := ldR8N8 .h n s

/-- `LD L, n8` (R131). -/
def execLdLN8 (n : Byte) (s : State) : Result := ldR8N8 .l n s

/-- `LD A, n8` (R131). -/
def execLdAN8 (n : Byte) (s : State) : Result := ldR8N8 .a n s

/-- `LD B, [HL]` (R132). -/
def execLdBAtHL (s : State) : Result := ldR8AtHL .b s

/-- `LD C, [HL]` (R132). -/
def execLdCAtHL (s : State) : Result := ldR8AtHL .c s

/-- `LD D, [HL]` (R132). -/
def execLdDAtHL (s : State) : Result := ldR8AtHL .d s

/-- `LD E, [HL]` (R132). -/
def execLdEAtHL (s : State) : Result := ldR8AtHL .e s

/-- `LD H, [HL]` (R132). -/
def execLdHAtHL (s : State) : Result := ldR8AtHL .h s

/-- `LD L, [HL]` (R132). -/
def execLdLAtHL (s : State) : Result := ldR8AtHL .l s

/-- `LD A, [HL]` (R132). -/
def execLdAAtHL (s : State) : Result := ldR8AtHL .a s

/-- `LD [HL], B` (R133). -/
def execLdAtHLB (s : State) : Result := ldAtHLR8 .b s

/-- `LD [HL], C` (R133). -/
def execLdAtHLC (s : State) : Result := ldAtHLR8 .c s

/-- `LD [HL], D` (R133). -/
def execLdAtHLD (s : State) : Result := ldAtHLR8 .d s

/-- `LD [HL], E` (R133). -/
def execLdAtHLE (s : State) : Result := ldAtHLR8 .e s

/-- `LD [HL], H` (R133). -/
def execLdAtHLH (s : State) : Result := ldAtHLR8 .h s

/-- `LD [HL], L` (R133). -/
def execLdAtHLL (s : State) : Result := ldAtHLR8 .l s

/-- `LD [HL], A` (R133). -/
def execLdAtHLA (s : State) : Result := ldAtHLR8 .a s

/-- `LD [HL], n8` (R134). -/
def execLdAtHLN8 (n : Byte) (s : State) : Result := .next (s.memWrite s.hl n)

/-- `LD A, [BC]` (R135). -/
def execLdAAtBC (s : State) : Result := ldAAtPtr .bc s

/-- `LD A, [DE]` (R135). -/
def execLdAAtDE (s : State) : Result := ldAAtPtr .de s

/-- `LD [BC], A` (R136). -/
def execLdAtBCA (s : State) : Result := ldAtPtrA .bc s

/-- `LD [DE], A` (R136). -/
def execLdAtDEA (s : State) : Result := ldAtPtrA .de s

/-- `LD A, [n16]` (R137). -/
def execLdAAtN16 (n : Word) (s : State) : Result := loadA n s

/-- `LD [n16], A` (R138). -/
def execLdAtN16A (n : Word) (s : State) : Result := .next (s.memWrite n s.a)

/-- `LD A, [HL+]` (R139). -/
def execLdAAtHLInc (s : State) : Result := .next ({ s.afterHL with a := s.atHL }.setHL (s.hl + 1))

/-- `LD A, [HL-]` (R140). -/
def execLdAAtHLDec (s : State) : Result := .next ({ s.afterHL with a := s.atHL }.setHL (s.hl - 1))

/-- `LD [HL+], A` (R141). -/
def execLdAtHLIncA (s : State) : Result := .next ((s.memWrite s.hl s.a).setHL (s.hl + 1))

/-- `LD [HL-], A` (R142). -/
def execLdAtHLDecA (s : State) : Result := .next ((s.memWrite s.hl s.a).setHL (s.hl - 1))

/-- `LDH [n8], A` (R143). -/
def execLdhAtN8A (n : Byte) (s : State) : Result := .next (s.memWrite (highPage n) s.a)

/-- `LDH A, [n8]` (R144). -/
def execLdhAAtN8 (n : Byte) (s : State) : Result := loadA (highPage n) s

/-- `LDH [C], A` (R145). -/
def execLdhAtCA (s : State) : Result := .next (s.memWrite (highPage s.c) s.a)

/-- `LDH A, [C]` (R146). -/
def execLdhAAtC (s : State) : Result := loadA (highPage s.c) s

end Sys2Proof.Machine
end

