-- ==== Sys2Proof/Machine/Shift.lean ====
section
/-! DEFINITION. The rotates and shifts (45_rotate_shift_bit.md rules R240 to R260). -/

namespace Sys2Proof.Machine

/-- An accumulator rotate (R241 to R244): Z is cleared always. -/
def rotateA (op : ShiftOp) (s : State) : Result := .next (s.putReg .a (rotateAOut op s.a (Flags.c s.f)))

/-- A shift of a register (R240). -/
def shiftR8 (op : ShiftOp) (r : Reg8) (s : State) : Result :=
  .next (s.putReg r (shiftOut op (s.reg r) (Flags.c s.f)))

/-- A shift of memory at HL: one read, then one write (R240, R246). -/
def shiftAtHL (op : ShiftOp) (s : State) : Result := .next (s.afterHL.putAtHL (shiftOut op s.atHL (Flags.c s.f)))

/-! ## The meanings -/

/-- `RLCA` (R241). -/
def execRlca (s : State) : Result := rotateA .rlc s

/-- `RRCA` (R242). -/
def execRrca (s : State) : Result := rotateA .rrc s

/-- `RLA` (R243). -/
def execRla (s : State) : Result := rotateA .rl s

/-- `RRA` (R244). -/
def execRra (s : State) : Result := rotateA .rr s

/-- `RLC B` (R245). -/
def execRlcB (s : State) : Result := shiftR8 .rlc .b s

/-- `RLC C` (R245). -/
def execRlcC (s : State) : Result := shiftR8 .rlc .c s

/-- `RLC D` (R245). -/
def execRlcD (s : State) : Result := shiftR8 .rlc .d s

/-- `RLC E` (R245). -/
def execRlcE (s : State) : Result := shiftR8 .rlc .e s

/-- `RLC H` (R245). -/
def execRlcH (s : State) : Result := shiftR8 .rlc .h s

/-- `RLC L` (R245). -/
def execRlcL (s : State) : Result := shiftR8 .rlc .l s

/-- `RLC A` (R245). -/
def execRlcA (s : State) : Result := shiftR8 .rlc .a s

/-- `RLC [HL]` (R246). -/
def execRlcAtHL (s : State) : Result := shiftAtHL .rlc s

/-- `RRC B` (R247). -/
def execRrcB (s : State) : Result := shiftR8 .rrc .b s

/-- `RRC C` (R247). -/
def execRrcC (s : State) : Result := shiftR8 .rrc .c s

/-- `RRC D` (R247). -/
def execRrcD (s : State) : Result := shiftR8 .rrc .d s

/-- `RRC E` (R247). -/
def execRrcE (s : State) : Result := shiftR8 .rrc .e s

/-- `RRC H` (R247). -/
def execRrcH (s : State) : Result := shiftR8 .rrc .h s

/-- `RRC L` (R247). -/
def execRrcL (s : State) : Result := shiftR8 .rrc .l s

/-- `RRC A` (R247). -/
def execRrcA (s : State) : Result := shiftR8 .rrc .a s

/-- `RRC [HL]` (R248). -/
def execRrcAtHL (s : State) : Result := shiftAtHL .rrc s

/-- `RL B` (R249). -/
def execRlB (s : State) : Result := shiftR8 .rl .b s

/-- `RL C` (R249). -/
def execRlC (s : State) : Result := shiftR8 .rl .c s

/-- `RL D` (R249). -/
def execRlD (s : State) : Result := shiftR8 .rl .d s

/-- `RL E` (R249). -/
def execRlE (s : State) : Result := shiftR8 .rl .e s

/-- `RL H` (R249). -/
def execRlH (s : State) : Result := shiftR8 .rl .h s

/-- `RL L` (R249). -/
def execRlL (s : State) : Result := shiftR8 .rl .l s

/-- `RL A` (R249). -/
def execRlA (s : State) : Result := shiftR8 .rl .a s

/-- `RL [HL]` (R250). -/
def execRlAtHL (s : State) : Result := shiftAtHL .rl s

/-- `RR B` (R251). -/
def execRrB (s : State) : Result := shiftR8 .rr .b s

/-- `RR C` (R251). -/
def execRrC (s : State) : Result := shiftR8 .rr .c s

/-- `RR D` (R251). -/
def execRrD (s : State) : Result := shiftR8 .rr .d s

/-- `RR E` (R251). -/
def execRrE (s : State) : Result := shiftR8 .rr .e s

/-- `RR H` (R251). -/
def execRrH (s : State) : Result := shiftR8 .rr .h s

/-- `RR L` (R251). -/
def execRrL (s : State) : Result := shiftR8 .rr .l s

/-- `RR A` (R251). -/
def execRrA (s : State) : Result := shiftR8 .rr .a s

/-- `RR [HL]` (R252). -/
def execRrAtHL (s : State) : Result := shiftAtHL .rr s

/-- `SLA B` (R253). -/
def execSlaB (s : State) : Result := shiftR8 .sla .b s

/-- `SLA C` (R253). -/
def execSlaC (s : State) : Result := shiftR8 .sla .c s

/-- `SLA D` (R253). -/
def execSlaD (s : State) : Result := shiftR8 .sla .d s

/-- `SLA E` (R253). -/
def execSlaE (s : State) : Result := shiftR8 .sla .e s

/-- `SLA H` (R253). -/
def execSlaH (s : State) : Result := shiftR8 .sla .h s

/-- `SLA L` (R253). -/
def execSlaL (s : State) : Result := shiftR8 .sla .l s

/-- `SLA A` (R253). -/
def execSlaA (s : State) : Result := shiftR8 .sla .a s

/-- `SLA [HL]` (R254). -/
def execSlaAtHL (s : State) : Result := shiftAtHL .sla s

/-- `SRA B` (R255). -/
def execSraB (s : State) : Result := shiftR8 .sra .b s

/-- `SRA C` (R255). -/
def execSraC (s : State) : Result := shiftR8 .sra .c s

/-- `SRA D` (R255). -/
def execSraD (s : State) : Result := shiftR8 .sra .d s

/-- `SRA E` (R255). -/
def execSraE (s : State) : Result := shiftR8 .sra .e s

/-- `SRA H` (R255). -/
def execSraH (s : State) : Result := shiftR8 .sra .h s

/-- `SRA L` (R255). -/
def execSraL (s : State) : Result := shiftR8 .sra .l s

/-- `SRA A` (R255). -/
def execSraA (s : State) : Result := shiftR8 .sra .a s

/-- `SRA [HL]` (R256). -/
def execSraAtHL (s : State) : Result := shiftAtHL .sra s

/-- `SWAP B` (R257). -/
def execSwapB (s : State) : Result := shiftR8 .swap .b s

/-- `SWAP C` (R257). -/
def execSwapC (s : State) : Result := shiftR8 .swap .c s

/-- `SWAP D` (R257). -/
def execSwapD (s : State) : Result := shiftR8 .swap .d s

/-- `SWAP E` (R257). -/
def execSwapE (s : State) : Result := shiftR8 .swap .e s

/-- `SWAP H` (R257). -/
def execSwapH (s : State) : Result := shiftR8 .swap .h s

/-- `SWAP L` (R257). -/
def execSwapL (s : State) : Result := shiftR8 .swap .l s

/-- `SWAP A` (R257). -/
def execSwapA (s : State) : Result := shiftR8 .swap .a s

/-- `SWAP [HL]` (R258). -/
def execSwapAtHL (s : State) : Result := shiftAtHL .swap s

/-- `SRL B` (R259). -/
def execSrlB (s : State) : Result := shiftR8 .srl .b s

/-- `SRL C` (R259). -/
def execSrlC (s : State) : Result := shiftR8 .srl .c s

/-- `SRL D` (R259). -/
def execSrlD (s : State) : Result := shiftR8 .srl .d s

/-- `SRL E` (R259). -/
def execSrlE (s : State) : Result := shiftR8 .srl .e s

/-- `SRL H` (R259). -/
def execSrlH (s : State) : Result := shiftR8 .srl .h s

/-- `SRL L` (R259). -/
def execSrlL (s : State) : Result := shiftR8 .srl .l s

/-- `SRL A` (R259). -/
def execSrlA (s : State) : Result := shiftR8 .srl .a s

/-- `SRL [HL]` (R260). -/
def execSrlAtHL (s : State) : Result := shiftAtHL .srl s

end Sys2Proof.Machine
end

