-- ==== Sys2Proof/Machine/System.lean ====
section
/-! DEFINITION. The system instructions (47_system.md rules R300 to R304). -/

namespace Sys2Proof.Machine

/-! ## The meanings -/

/-- `NOP` (R300). -/
def execNop (s : State) : Result := .next s

/-- `DI` (R301). -/
def execDi (s : State) : Result := .next { s with ime := false, eiPending := false }

/-- `HALT` (R302): with IME = 0 and an interrupt pending the core does not halt, and the next opcode fetch does not
advance PC past its first byte; otherwise it halts. -/
def execHalt (s : State) : Result :=
  if !s.ime && s.pending != 0 && s.cfg.haltBug then .next { s with haltBug := true }
  else .next { s with mode := .halted }

/-- `STOP` (R303): the operand byte is fetched and ignored. -/
def execStop (_ : Byte) (s : State) : Result := .next { s with mode := .stopped }

/-- `EI` (R304): IME is set when the next instruction has been decoded (30_encoding.md R104). -/
def execEi (s : State) : Result := .next { s with eiPending := true }

end Sys2Proof.Machine
end

