-- ==== Sys2Proof/Machine/Dispatch.lean ====
section
/-! DEFINITION. The dispatch: one arm for each constructor of Instr, in the order of Syntax.lean. -/

namespace Sys2Proof.Machine

def exec (i : Instr) (s : State) : Host.Outcome State Fault Refusal :=
  match i with
  -- NOP
  | .nop => Sys2Proof.Machine.execNop s
  -- LD r16, n16
  | .ldBCN16 n => Sys2Proof.Machine.execLdBCN16 n s
  | .ldDEN16 n => Sys2Proof.Machine.execLdDEN16 n s
  | .ldHLN16 n => Sys2Proof.Machine.execLdHLN16 n s
  | .ldSPN16 n => Sys2Proof.Machine.execLdSPN16 n s
  -- LD [r16ptr], A
  | .ldAtBCA => Sys2Proof.Machine.execLdAtBCA s
  | .ldAtDEA => Sys2Proof.Machine.execLdAtDEA s
  -- LD [HL+], A
  | .ldAtHLIncA => Sys2Proof.Machine.execLdAtHLIncA s
  -- LD [HL-], A
  | .ldAtHLDecA => Sys2Proof.Machine.execLdAtHLDecA s
  -- INC r16
  | .incBC => Sys2Proof.Machine.execIncBC s
  | .incDE => Sys2Proof.Machine.execIncDE s
  | .incHL => Sys2Proof.Machine.execIncHL s
  | .incSP => Sys2Proof.Machine.execIncSP s
  -- INC r8
  | .incB => Sys2Proof.Machine.execIncB s
  | .incC => Sys2Proof.Machine.execIncC s
  | .incD => Sys2Proof.Machine.execIncD s
  | .incE => Sys2Proof.Machine.execIncE s
  | .incH => Sys2Proof.Machine.execIncH s
  | .incL => Sys2Proof.Machine.execIncL s
  | .incA => Sys2Proof.Machine.execIncA s
  -- INC [HL]
  | .incAtHL => Sys2Proof.Machine.execIncAtHL s
  -- DEC r8
  | .decB => Sys2Proof.Machine.execDecB s
  | .decC => Sys2Proof.Machine.execDecC s
  | .decD => Sys2Proof.Machine.execDecD s
  | .decE => Sys2Proof.Machine.execDecE s
  | .decH => Sys2Proof.Machine.execDecH s
  | .decL => Sys2Proof.Machine.execDecL s
  | .decA => Sys2Proof.Machine.execDecA s
  -- DEC [HL]
  | .decAtHL => Sys2Proof.Machine.execDecAtHL s
  -- LD r8, n8
  | .ldBN8 n => Sys2Proof.Machine.execLdBN8 n s
  | .ldCN8 n => Sys2Proof.Machine.execLdCN8 n s
  | .ldDN8 n => Sys2Proof.Machine.execLdDN8 n s
  | .ldEN8 n => Sys2Proof.Machine.execLdEN8 n s
  | .ldHN8 n => Sys2Proof.Machine.execLdHN8 n s
  | .ldLN8 n => Sys2Proof.Machine.execLdLN8 n s
  | .ldAN8 n => Sys2Proof.Machine.execLdAN8 n s
  -- LD [HL], n8
  | .ldAtHLN8 n => Sys2Proof.Machine.execLdAtHLN8 n s
  -- RLCA
  | .rlca => Sys2Proof.Machine.execRlca s
  -- LD [n16], SP
  | .ldAtN16SP n => Sys2Proof.Machine.execLdAtN16SP n s
  -- ADD HL, r16
  | .addHLBC => Sys2Proof.Machine.execAddHLBC s
  | .addHLDE => Sys2Proof.Machine.execAddHLDE s
  | .addHLHL => Sys2Proof.Machine.execAddHLHL s
  | .addHLSP => Sys2Proof.Machine.execAddHLSP s
  -- LD A, [r16ptr]
  | .ldAAtBC => Sys2Proof.Machine.execLdAAtBC s
  | .ldAAtDE => Sys2Proof.Machine.execLdAAtDE s
  -- LD A, [HL+]
  | .ldAAtHLInc => Sys2Proof.Machine.execLdAAtHLInc s
  -- LD A, [HL-]
  | .ldAAtHLDec => Sys2Proof.Machine.execLdAAtHLDec s
  -- DEC r16
  | .decBC => Sys2Proof.Machine.execDecBC s
  | .decDE => Sys2Proof.Machine.execDecDE s
  | .decHL => Sys2Proof.Machine.execDecHL s
  | .decSP => Sys2Proof.Machine.execDecSP s
  -- RRCA
  | .rrca => Sys2Proof.Machine.execRrca s
  -- STOP
  | .stop n => Sys2Proof.Machine.execStop n s
  -- RLA
  | .rla => Sys2Proof.Machine.execRla s
  -- JR e8
  | .jrE8 e => Sys2Proof.Machine.execJrE8 e s
  -- RRA
  | .rra => Sys2Proof.Machine.execRra s
  -- JR cc, e8
  | .jrNZE8 e => Sys2Proof.Machine.execJrNZE8 e s
  | .jrZE8 e => Sys2Proof.Machine.execJrZE8 e s
  | .jrNCE8 e => Sys2Proof.Machine.execJrNCE8 e s
  | .jrCE8 e => Sys2Proof.Machine.execJrCE8 e s
  -- DAA
  | .daa => Sys2Proof.Machine.execDaa s
  -- CPL
  | .cpl => Sys2Proof.Machine.execCpl s
  -- SCF
  | .scf => Sys2Proof.Machine.execScf s
  -- CCF
  | .ccf => Sys2Proof.Machine.execCcf s
  -- LD r8, r8
  | .ldBB => Sys2Proof.Machine.execLdBB s
  | .ldBC => Sys2Proof.Machine.execLdBC s
  | .ldBD => Sys2Proof.Machine.execLdBD s
  | .ldBE => Sys2Proof.Machine.execLdBE s
  | .ldBH => Sys2Proof.Machine.execLdBH s
  | .ldBL => Sys2Proof.Machine.execLdBL s
  | .ldBA => Sys2Proof.Machine.execLdBA s
  | .ldCB => Sys2Proof.Machine.execLdCB s
  | .ldCC => Sys2Proof.Machine.execLdCC s
  | .ldCD => Sys2Proof.Machine.execLdCD s
  | .ldCE => Sys2Proof.Machine.execLdCE s
  | .ldCH => Sys2Proof.Machine.execLdCH s
  | .ldCL => Sys2Proof.Machine.execLdCL s
  | .ldCA => Sys2Proof.Machine.execLdCA s
  | .ldDB => Sys2Proof.Machine.execLdDB s
  | .ldDC => Sys2Proof.Machine.execLdDC s
  | .ldDD => Sys2Proof.Machine.execLdDD s
  | .ldDE => Sys2Proof.Machine.execLdDE s
  | .ldDH => Sys2Proof.Machine.execLdDH s
  | .ldDL => Sys2Proof.Machine.execLdDL s
  | .ldDA => Sys2Proof.Machine.execLdDA s
  | .ldEB => Sys2Proof.Machine.execLdEB s
  | .ldEC => Sys2Proof.Machine.execLdEC s
  | .ldED => Sys2Proof.Machine.execLdED s
  | .ldEE => Sys2Proof.Machine.execLdEE s
  | .ldEH => Sys2Proof.Machine.execLdEH s
  | .ldEL => Sys2Proof.Machine.execLdEL s
  | .ldEA => Sys2Proof.Machine.execLdEA s
  | .ldHB => Sys2Proof.Machine.execLdHB s
  | .ldHC => Sys2Proof.Machine.execLdHC s
  | .ldHD => Sys2Proof.Machine.execLdHD s
  | .ldHE => Sys2Proof.Machine.execLdHE s
  | .ldHH => Sys2Proof.Machine.execLdHH s
  | .ldHL => Sys2Proof.Machine.execLdHL s
  | .ldHA => Sys2Proof.Machine.execLdHA s
  | .ldLB => Sys2Proof.Machine.execLdLB s
  | .ldLC => Sys2Proof.Machine.execLdLC s
  | .ldLD => Sys2Proof.Machine.execLdLD s
  | .ldLE => Sys2Proof.Machine.execLdLE s
  | .ldLH => Sys2Proof.Machine.execLdLH s
  | .ldLL => Sys2Proof.Machine.execLdLL s
  | .ldLA => Sys2Proof.Machine.execLdLA s
  | .ldAB => Sys2Proof.Machine.execLdAB s
  | .ldAC => Sys2Proof.Machine.execLdAC s
  | .ldAD => Sys2Proof.Machine.execLdAD s
  | .ldAE => Sys2Proof.Machine.execLdAE s
  | .ldAH => Sys2Proof.Machine.execLdAH s
  | .ldAL => Sys2Proof.Machine.execLdAL s
  | .ldAA => Sys2Proof.Machine.execLdAA s
  -- LD r8, [HL]
  | .ldBAtHL => Sys2Proof.Machine.execLdBAtHL s
  | .ldCAtHL => Sys2Proof.Machine.execLdCAtHL s
  | .ldDAtHL => Sys2Proof.Machine.execLdDAtHL s
  | .ldEAtHL => Sys2Proof.Machine.execLdEAtHL s
  | .ldHAtHL => Sys2Proof.Machine.execLdHAtHL s
  | .ldLAtHL => Sys2Proof.Machine.execLdLAtHL s
  | .ldAAtHL => Sys2Proof.Machine.execLdAAtHL s
  -- LD [HL], r8
  | .ldAtHLB => Sys2Proof.Machine.execLdAtHLB s
  | .ldAtHLC => Sys2Proof.Machine.execLdAtHLC s
  | .ldAtHLD => Sys2Proof.Machine.execLdAtHLD s
  | .ldAtHLE => Sys2Proof.Machine.execLdAtHLE s
  | .ldAtHLH => Sys2Proof.Machine.execLdAtHLH s
  | .ldAtHLL => Sys2Proof.Machine.execLdAtHLL s
  | .ldAtHLA => Sys2Proof.Machine.execLdAtHLA s
  -- HALT
  | .halt => Sys2Proof.Machine.execHalt s
  -- ADD A, r8
  | .addAB => Sys2Proof.Machine.execAddAB s
  | .addAC => Sys2Proof.Machine.execAddAC s
  | .addAD => Sys2Proof.Machine.execAddAD s
  | .addAE => Sys2Proof.Machine.execAddAE s
  | .addAH => Sys2Proof.Machine.execAddAH s
  | .addAL => Sys2Proof.Machine.execAddAL s
  | .addAA => Sys2Proof.Machine.execAddAA s
  -- ADD A, [HL]
  | .addAAtHL => Sys2Proof.Machine.execAddAAtHL s
  -- ADD A, n8
  | .addAN8 n => Sys2Proof.Machine.execAddAN8 n s
  -- ADC A, r8
  | .adcAB => Sys2Proof.Machine.execAdcAB s
  | .adcAC => Sys2Proof.Machine.execAdcAC s
  | .adcAD => Sys2Proof.Machine.execAdcAD s
  | .adcAE => Sys2Proof.Machine.execAdcAE s
  | .adcAH => Sys2Proof.Machine.execAdcAH s
  | .adcAL => Sys2Proof.Machine.execAdcAL s
  | .adcAA => Sys2Proof.Machine.execAdcAA s
  -- ADC A, [HL]
  | .adcAAtHL => Sys2Proof.Machine.execAdcAAtHL s
  -- ADC A, n8
  | .adcAN8 n => Sys2Proof.Machine.execAdcAN8 n s
  -- SUB A, r8
  | .subAB => Sys2Proof.Machine.execSubAB s
  | .subAC => Sys2Proof.Machine.execSubAC s
  | .subAD => Sys2Proof.Machine.execSubAD s
  | .subAE => Sys2Proof.Machine.execSubAE s
  | .subAH => Sys2Proof.Machine.execSubAH s
  | .subAL => Sys2Proof.Machine.execSubAL s
  | .subAA => Sys2Proof.Machine.execSubAA s
  -- SUB A, [HL]
  | .subAAtHL => Sys2Proof.Machine.execSubAAtHL s
  -- SUB A, n8
  | .subAN8 n => Sys2Proof.Machine.execSubAN8 n s
  -- SBC A, r8
  | .sbcAB => Sys2Proof.Machine.execSbcAB s
  | .sbcAC => Sys2Proof.Machine.execSbcAC s
  | .sbcAD => Sys2Proof.Machine.execSbcAD s
  | .sbcAE => Sys2Proof.Machine.execSbcAE s
  | .sbcAH => Sys2Proof.Machine.execSbcAH s
  | .sbcAL => Sys2Proof.Machine.execSbcAL s
  | .sbcAA => Sys2Proof.Machine.execSbcAA s
  -- SBC A, [HL]
  | .sbcAAtHL => Sys2Proof.Machine.execSbcAAtHL s
  -- SBC A, n8
  | .sbcAN8 n => Sys2Proof.Machine.execSbcAN8 n s
  -- AND A, r8
  | .andAB => Sys2Proof.Machine.execAndAB s
  | .andAC => Sys2Proof.Machine.execAndAC s
  | .andAD => Sys2Proof.Machine.execAndAD s
  | .andAE => Sys2Proof.Machine.execAndAE s
  | .andAH => Sys2Proof.Machine.execAndAH s
  | .andAL => Sys2Proof.Machine.execAndAL s
  | .andAA => Sys2Proof.Machine.execAndAA s
  -- AND A, [HL]
  | .andAAtHL => Sys2Proof.Machine.execAndAAtHL s
  -- AND A, n8
  | .andAN8 n => Sys2Proof.Machine.execAndAN8 n s
  -- XOR A, r8
  | .xorAB => Sys2Proof.Machine.execXorAB s
  | .xorAC => Sys2Proof.Machine.execXorAC s
  | .xorAD => Sys2Proof.Machine.execXorAD s
  | .xorAE => Sys2Proof.Machine.execXorAE s
  | .xorAH => Sys2Proof.Machine.execXorAH s
  | .xorAL => Sys2Proof.Machine.execXorAL s
  | .xorAA => Sys2Proof.Machine.execXorAA s
  -- XOR A, [HL]
  | .xorAAtHL => Sys2Proof.Machine.execXorAAtHL s
  -- XOR A, n8
  | .xorAN8 n => Sys2Proof.Machine.execXorAN8 n s
  -- OR A, r8
  | .orAB => Sys2Proof.Machine.execOrAB s
  | .orAC => Sys2Proof.Machine.execOrAC s
  | .orAD => Sys2Proof.Machine.execOrAD s
  | .orAE => Sys2Proof.Machine.execOrAE s
  | .orAH => Sys2Proof.Machine.execOrAH s
  | .orAL => Sys2Proof.Machine.execOrAL s
  | .orAA => Sys2Proof.Machine.execOrAA s
  -- OR A, [HL]
  | .orAAtHL => Sys2Proof.Machine.execOrAAtHL s
  -- OR A, n8
  | .orAN8 n => Sys2Proof.Machine.execOrAN8 n s
  -- CP A, r8
  | .cpAB => Sys2Proof.Machine.execCpAB s
  | .cpAC => Sys2Proof.Machine.execCpAC s
  | .cpAD => Sys2Proof.Machine.execCpAD s
  | .cpAE => Sys2Proof.Machine.execCpAE s
  | .cpAH => Sys2Proof.Machine.execCpAH s
  | .cpAL => Sys2Proof.Machine.execCpAL s
  | .cpAA => Sys2Proof.Machine.execCpAA s
  -- CP A, [HL]
  | .cpAAtHL => Sys2Proof.Machine.execCpAAtHL s
  -- CP A, n8
  | .cpAN8 n => Sys2Proof.Machine.execCpAN8 n s
  -- RET cc
  | .retNZ => Sys2Proof.Machine.execRetNZ s
  | .retZ => Sys2Proof.Machine.execRetZ s
  | .retNC => Sys2Proof.Machine.execRetNC s
  | .retC => Sys2Proof.Machine.execRetC s
  -- POP r16stk
  | .popBC => Sys2Proof.Machine.execPopBC s
  | .popDE => Sys2Proof.Machine.execPopDE s
  | .popHL => Sys2Proof.Machine.execPopHL s
  -- POP AF
  | .popAF => Sys2Proof.Machine.execPopAF s
  -- JP cc, n16
  | .jpNZN16 n => Sys2Proof.Machine.execJpNZN16 n s
  | .jpZN16 n => Sys2Proof.Machine.execJpZN16 n s
  | .jpNCN16 n => Sys2Proof.Machine.execJpNCN16 n s
  | .jpCN16 n => Sys2Proof.Machine.execJpCN16 n s
  -- JP n16
  | .jpN16 n => Sys2Proof.Machine.execJpN16 n s
  -- CALL cc, n16
  | .callNZN16 n => Sys2Proof.Machine.execCallNZN16 n s
  | .callZN16 n => Sys2Proof.Machine.execCallZN16 n s
  | .callNCN16 n => Sys2Proof.Machine.execCallNCN16 n s
  | .callCN16 n => Sys2Proof.Machine.execCallCN16 n s
  -- PUSH r16stk
  | .pushBC => Sys2Proof.Machine.execPushBC s
  | .pushDE => Sys2Proof.Machine.execPushDE s
  | .pushHL => Sys2Proof.Machine.execPushHL s
  -- PUSH AF
  | .pushAF => Sys2Proof.Machine.execPushAF s
  -- RST vec
  | .rst00 => Sys2Proof.Machine.execRst00 s
  | .rst08 => Sys2Proof.Machine.execRst08 s
  | .rst10 => Sys2Proof.Machine.execRst10 s
  | .rst18 => Sys2Proof.Machine.execRst18 s
  | .rst20 => Sys2Proof.Machine.execRst20 s
  | .rst28 => Sys2Proof.Machine.execRst28 s
  | .rst30 => Sys2Proof.Machine.execRst30 s
  | .rst38 => Sys2Proof.Machine.execRst38 s
  -- RET
  | .ret => Sys2Proof.Machine.execRet s
  -- RETI
  | .reti => Sys2Proof.Machine.execReti s
  -- CALL n16
  | .callN16 n => Sys2Proof.Machine.execCallN16 n s
  -- LDH [n8], A
  | .ldhAtN8A n => Sys2Proof.Machine.execLdhAtN8A n s
  -- LDH [C], A
  | .ldhAtCA => Sys2Proof.Machine.execLdhAtCA s
  -- ADD SP, e8
  | .addSPE8 e => Sys2Proof.Machine.execAddSPE8 e s
  -- JP HL
  | .jpHL => Sys2Proof.Machine.execJpHL s
  -- LD [n16], A
  | .ldAtN16A n => Sys2Proof.Machine.execLdAtN16A n s
  -- LDH A, [n8]
  | .ldhAAtN8 n => Sys2Proof.Machine.execLdhAAtN8 n s
  -- LDH A, [C]
  | .ldhAAtC => Sys2Proof.Machine.execLdhAAtC s
  -- DI
  | .di => Sys2Proof.Machine.execDi s
  -- LD HL, SP+e8
  | .ldHLSPE8 e => Sys2Proof.Machine.execLdHLSPE8 e s
  -- LD SP, HL
  | .ldSPHL => Sys2Proof.Machine.execLdSPHL s
  -- LD A, [n16]
  | .ldAAtN16 n => Sys2Proof.Machine.execLdAAtN16 n s
  -- EI
  | .ei => Sys2Proof.Machine.execEi s
  -- RLC r8
  | .rlcB => Sys2Proof.Machine.execRlcB s
  | .rlcC => Sys2Proof.Machine.execRlcC s
  | .rlcD => Sys2Proof.Machine.execRlcD s
  | .rlcE => Sys2Proof.Machine.execRlcE s
  | .rlcH => Sys2Proof.Machine.execRlcH s
  | .rlcL => Sys2Proof.Machine.execRlcL s
  | .rlcA => Sys2Proof.Machine.execRlcA s
  -- RLC [HL]
  | .rlcAtHL => Sys2Proof.Machine.execRlcAtHL s
  -- RRC r8
  | .rrcB => Sys2Proof.Machine.execRrcB s
  | .rrcC => Sys2Proof.Machine.execRrcC s
  | .rrcD => Sys2Proof.Machine.execRrcD s
  | .rrcE => Sys2Proof.Machine.execRrcE s
  | .rrcH => Sys2Proof.Machine.execRrcH s
  | .rrcL => Sys2Proof.Machine.execRrcL s
  | .rrcA => Sys2Proof.Machine.execRrcA s
  -- RRC [HL]
  | .rrcAtHL => Sys2Proof.Machine.execRrcAtHL s
  -- RL r8
  | .rlB => Sys2Proof.Machine.execRlB s
  | .rlC => Sys2Proof.Machine.execRlC s
  | .rlD => Sys2Proof.Machine.execRlD s
  | .rlE => Sys2Proof.Machine.execRlE s
  | .rlH => Sys2Proof.Machine.execRlH s
  | .rlL => Sys2Proof.Machine.execRlL s
  | .rlA => Sys2Proof.Machine.execRlA s
  -- RL [HL]
  | .rlAtHL => Sys2Proof.Machine.execRlAtHL s
  -- RR r8
  | .rrB => Sys2Proof.Machine.execRrB s
  | .rrC => Sys2Proof.Machine.execRrC s
  | .rrD => Sys2Proof.Machine.execRrD s
  | .rrE => Sys2Proof.Machine.execRrE s
  | .rrH => Sys2Proof.Machine.execRrH s
  | .rrL => Sys2Proof.Machine.execRrL s
  | .rrA => Sys2Proof.Machine.execRrA s
  -- RR [HL]
  | .rrAtHL => Sys2Proof.Machine.execRrAtHL s
  -- SLA r8
  | .slaB => Sys2Proof.Machine.execSlaB s
  | .slaC => Sys2Proof.Machine.execSlaC s
  | .slaD => Sys2Proof.Machine.execSlaD s
  | .slaE => Sys2Proof.Machine.execSlaE s
  | .slaH => Sys2Proof.Machine.execSlaH s
  | .slaL => Sys2Proof.Machine.execSlaL s
  | .slaA => Sys2Proof.Machine.execSlaA s
  -- SLA [HL]
  | .slaAtHL => Sys2Proof.Machine.execSlaAtHL s
  -- SRA r8
  | .sraB => Sys2Proof.Machine.execSraB s
  | .sraC => Sys2Proof.Machine.execSraC s
  | .sraD => Sys2Proof.Machine.execSraD s
  | .sraE => Sys2Proof.Machine.execSraE s
  | .sraH => Sys2Proof.Machine.execSraH s
  | .sraL => Sys2Proof.Machine.execSraL s
  | .sraA => Sys2Proof.Machine.execSraA s
  -- SRA [HL]
  | .sraAtHL => Sys2Proof.Machine.execSraAtHL s
  -- SWAP r8
  | .swapB => Sys2Proof.Machine.execSwapB s
  | .swapC => Sys2Proof.Machine.execSwapC s
  | .swapD => Sys2Proof.Machine.execSwapD s
  | .swapE => Sys2Proof.Machine.execSwapE s
  | .swapH => Sys2Proof.Machine.execSwapH s
  | .swapL => Sys2Proof.Machine.execSwapL s
  | .swapA => Sys2Proof.Machine.execSwapA s
  -- SWAP [HL]
  | .swapAtHL => Sys2Proof.Machine.execSwapAtHL s
  -- SRL r8
  | .srlB => Sys2Proof.Machine.execSrlB s
  | .srlC => Sys2Proof.Machine.execSrlC s
  | .srlD => Sys2Proof.Machine.execSrlD s
  | .srlE => Sys2Proof.Machine.execSrlE s
  | .srlH => Sys2Proof.Machine.execSrlH s
  | .srlL => Sys2Proof.Machine.execSrlL s
  | .srlA => Sys2Proof.Machine.execSrlA s
  -- SRL [HL]
  | .srlAtHL => Sys2Proof.Machine.execSrlAtHL s
  -- BIT u3, r8
  | .bit0B => Sys2Proof.Machine.execBit0B s
  | .bit0C => Sys2Proof.Machine.execBit0C s
  | .bit0D => Sys2Proof.Machine.execBit0D s
  | .bit0E => Sys2Proof.Machine.execBit0E s
  | .bit0H => Sys2Proof.Machine.execBit0H s
  | .bit0L => Sys2Proof.Machine.execBit0L s
  | .bit0A => Sys2Proof.Machine.execBit0A s
  | .bit1B => Sys2Proof.Machine.execBit1B s
  | .bit1C => Sys2Proof.Machine.execBit1C s
  | .bit1D => Sys2Proof.Machine.execBit1D s
  | .bit1E => Sys2Proof.Machine.execBit1E s
  | .bit1H => Sys2Proof.Machine.execBit1H s
  | .bit1L => Sys2Proof.Machine.execBit1L s
  | .bit1A => Sys2Proof.Machine.execBit1A s
  | .bit2B => Sys2Proof.Machine.execBit2B s
  | .bit2C => Sys2Proof.Machine.execBit2C s
  | .bit2D => Sys2Proof.Machine.execBit2D s
  | .bit2E => Sys2Proof.Machine.execBit2E s
  | .bit2H => Sys2Proof.Machine.execBit2H s
  | .bit2L => Sys2Proof.Machine.execBit2L s
  | .bit2A => Sys2Proof.Machine.execBit2A s
  | .bit3B => Sys2Proof.Machine.execBit3B s
  | .bit3C => Sys2Proof.Machine.execBit3C s
  | .bit3D => Sys2Proof.Machine.execBit3D s
  | .bit3E => Sys2Proof.Machine.execBit3E s
  | .bit3H => Sys2Proof.Machine.execBit3H s
  | .bit3L => Sys2Proof.Machine.execBit3L s
  | .bit3A => Sys2Proof.Machine.execBit3A s
  | .bit4B => Sys2Proof.Machine.execBit4B s
  | .bit4C => Sys2Proof.Machine.execBit4C s
  | .bit4D => Sys2Proof.Machine.execBit4D s
  | .bit4E => Sys2Proof.Machine.execBit4E s
  | .bit4H => Sys2Proof.Machine.execBit4H s
  | .bit4L => Sys2Proof.Machine.execBit4L s
  | .bit4A => Sys2Proof.Machine.execBit4A s
  | .bit5B => Sys2Proof.Machine.execBit5B s
  | .bit5C => Sys2Proof.Machine.execBit5C s
  | .bit5D => Sys2Proof.Machine.execBit5D s
  | .bit5E => Sys2Proof.Machine.execBit5E s
  | .bit5H => Sys2Proof.Machine.execBit5H s
  | .bit5L => Sys2Proof.Machine.execBit5L s
  | .bit5A => Sys2Proof.Machine.execBit5A s
  | .bit6B => Sys2Proof.Machine.execBit6B s
  | .bit6C => Sys2Proof.Machine.execBit6C s
  | .bit6D => Sys2Proof.Machine.execBit6D s
  | .bit6E => Sys2Proof.Machine.execBit6E s
  | .bit6H => Sys2Proof.Machine.execBit6H s
  | .bit6L => Sys2Proof.Machine.execBit6L s
  | .bit6A => Sys2Proof.Machine.execBit6A s
  | .bit7B => Sys2Proof.Machine.execBit7B s
  | .bit7C => Sys2Proof.Machine.execBit7C s
  | .bit7D => Sys2Proof.Machine.execBit7D s
  | .bit7E => Sys2Proof.Machine.execBit7E s
  | .bit7H => Sys2Proof.Machine.execBit7H s
  | .bit7L => Sys2Proof.Machine.execBit7L s
  | .bit7A => Sys2Proof.Machine.execBit7A s
  -- BIT u3, [HL]
  | .bit0AtHL => Sys2Proof.Machine.execBit0AtHL s
  | .bit1AtHL => Sys2Proof.Machine.execBit1AtHL s
  | .bit2AtHL => Sys2Proof.Machine.execBit2AtHL s
  | .bit3AtHL => Sys2Proof.Machine.execBit3AtHL s
  | .bit4AtHL => Sys2Proof.Machine.execBit4AtHL s
  | .bit5AtHL => Sys2Proof.Machine.execBit5AtHL s
  | .bit6AtHL => Sys2Proof.Machine.execBit6AtHL s
  | .bit7AtHL => Sys2Proof.Machine.execBit7AtHL s
  -- RES u3, r8
  | .res0B => Sys2Proof.Machine.execRes0B s
  | .res0C => Sys2Proof.Machine.execRes0C s
  | .res0D => Sys2Proof.Machine.execRes0D s
  | .res0E => Sys2Proof.Machine.execRes0E s
  | .res0H => Sys2Proof.Machine.execRes0H s
  | .res0L => Sys2Proof.Machine.execRes0L s
  | .res0A => Sys2Proof.Machine.execRes0A s
  | .res1B => Sys2Proof.Machine.execRes1B s
  | .res1C => Sys2Proof.Machine.execRes1C s
  | .res1D => Sys2Proof.Machine.execRes1D s
  | .res1E => Sys2Proof.Machine.execRes1E s
  | .res1H => Sys2Proof.Machine.execRes1H s
  | .res1L => Sys2Proof.Machine.execRes1L s
  | .res1A => Sys2Proof.Machine.execRes1A s
  | .res2B => Sys2Proof.Machine.execRes2B s
  | .res2C => Sys2Proof.Machine.execRes2C s
  | .res2D => Sys2Proof.Machine.execRes2D s
  | .res2E => Sys2Proof.Machine.execRes2E s
  | .res2H => Sys2Proof.Machine.execRes2H s
  | .res2L => Sys2Proof.Machine.execRes2L s
  | .res2A => Sys2Proof.Machine.execRes2A s
  | .res3B => Sys2Proof.Machine.execRes3B s
  | .res3C => Sys2Proof.Machine.execRes3C s
  | .res3D => Sys2Proof.Machine.execRes3D s
  | .res3E => Sys2Proof.Machine.execRes3E s
  | .res3H => Sys2Proof.Machine.execRes3H s
  | .res3L => Sys2Proof.Machine.execRes3L s
  | .res3A => Sys2Proof.Machine.execRes3A s
  | .res4B => Sys2Proof.Machine.execRes4B s
  | .res4C => Sys2Proof.Machine.execRes4C s
  | .res4D => Sys2Proof.Machine.execRes4D s
  | .res4E => Sys2Proof.Machine.execRes4E s
  | .res4H => Sys2Proof.Machine.execRes4H s
  | .res4L => Sys2Proof.Machine.execRes4L s
  | .res4A => Sys2Proof.Machine.execRes4A s
  | .res5B => Sys2Proof.Machine.execRes5B s
  | .res5C => Sys2Proof.Machine.execRes5C s
  | .res5D => Sys2Proof.Machine.execRes5D s
  | .res5E => Sys2Proof.Machine.execRes5E s
  | .res5H => Sys2Proof.Machine.execRes5H s
  | .res5L => Sys2Proof.Machine.execRes5L s
  | .res5A => Sys2Proof.Machine.execRes5A s
  | .res6B => Sys2Proof.Machine.execRes6B s
  | .res6C => Sys2Proof.Machine.execRes6C s
  | .res6D => Sys2Proof.Machine.execRes6D s
  | .res6E => Sys2Proof.Machine.execRes6E s
  | .res6H => Sys2Proof.Machine.execRes6H s
  | .res6L => Sys2Proof.Machine.execRes6L s
  | .res6A => Sys2Proof.Machine.execRes6A s
  | .res7B => Sys2Proof.Machine.execRes7B s
  | .res7C => Sys2Proof.Machine.execRes7C s
  | .res7D => Sys2Proof.Machine.execRes7D s
  | .res7E => Sys2Proof.Machine.execRes7E s
  | .res7H => Sys2Proof.Machine.execRes7H s
  | .res7L => Sys2Proof.Machine.execRes7L s
  | .res7A => Sys2Proof.Machine.execRes7A s
  -- RES u3, [HL]
  | .res0AtHL => Sys2Proof.Machine.execRes0AtHL s
  | .res1AtHL => Sys2Proof.Machine.execRes1AtHL s
  | .res2AtHL => Sys2Proof.Machine.execRes2AtHL s
  | .res3AtHL => Sys2Proof.Machine.execRes3AtHL s
  | .res4AtHL => Sys2Proof.Machine.execRes4AtHL s
  | .res5AtHL => Sys2Proof.Machine.execRes5AtHL s
  | .res6AtHL => Sys2Proof.Machine.execRes6AtHL s
  | .res7AtHL => Sys2Proof.Machine.execRes7AtHL s
  -- SET u3, r8
  | .set0B => Sys2Proof.Machine.execSet0B s
  | .set0C => Sys2Proof.Machine.execSet0C s
  | .set0D => Sys2Proof.Machine.execSet0D s
  | .set0E => Sys2Proof.Machine.execSet0E s
  | .set0H => Sys2Proof.Machine.execSet0H s
  | .set0L => Sys2Proof.Machine.execSet0L s
  | .set0A => Sys2Proof.Machine.execSet0A s
  | .set1B => Sys2Proof.Machine.execSet1B s
  | .set1C => Sys2Proof.Machine.execSet1C s
  | .set1D => Sys2Proof.Machine.execSet1D s
  | .set1E => Sys2Proof.Machine.execSet1E s
  | .set1H => Sys2Proof.Machine.execSet1H s
  | .set1L => Sys2Proof.Machine.execSet1L s
  | .set1A => Sys2Proof.Machine.execSet1A s
  | .set2B => Sys2Proof.Machine.execSet2B s
  | .set2C => Sys2Proof.Machine.execSet2C s
  | .set2D => Sys2Proof.Machine.execSet2D s
  | .set2E => Sys2Proof.Machine.execSet2E s
  | .set2H => Sys2Proof.Machine.execSet2H s
  | .set2L => Sys2Proof.Machine.execSet2L s
  | .set2A => Sys2Proof.Machine.execSet2A s
  | .set3B => Sys2Proof.Machine.execSet3B s
  | .set3C => Sys2Proof.Machine.execSet3C s
  | .set3D => Sys2Proof.Machine.execSet3D s
  | .set3E => Sys2Proof.Machine.execSet3E s
  | .set3H => Sys2Proof.Machine.execSet3H s
  | .set3L => Sys2Proof.Machine.execSet3L s
  | .set3A => Sys2Proof.Machine.execSet3A s
  | .set4B => Sys2Proof.Machine.execSet4B s
  | .set4C => Sys2Proof.Machine.execSet4C s
  | .set4D => Sys2Proof.Machine.execSet4D s
  | .set4E => Sys2Proof.Machine.execSet4E s
  | .set4H => Sys2Proof.Machine.execSet4H s
  | .set4L => Sys2Proof.Machine.execSet4L s
  | .set4A => Sys2Proof.Machine.execSet4A s
  | .set5B => Sys2Proof.Machine.execSet5B s
  | .set5C => Sys2Proof.Machine.execSet5C s
  | .set5D => Sys2Proof.Machine.execSet5D s
  | .set5E => Sys2Proof.Machine.execSet5E s
  | .set5H => Sys2Proof.Machine.execSet5H s
  | .set5L => Sys2Proof.Machine.execSet5L s
  | .set5A => Sys2Proof.Machine.execSet5A s
  | .set6B => Sys2Proof.Machine.execSet6B s
  | .set6C => Sys2Proof.Machine.execSet6C s
  | .set6D => Sys2Proof.Machine.execSet6D s
  | .set6E => Sys2Proof.Machine.execSet6E s
  | .set6H => Sys2Proof.Machine.execSet6H s
  | .set6L => Sys2Proof.Machine.execSet6L s
  | .set6A => Sys2Proof.Machine.execSet6A s
  | .set7B => Sys2Proof.Machine.execSet7B s
  | .set7C => Sys2Proof.Machine.execSet7C s
  | .set7D => Sys2Proof.Machine.execSet7D s
  | .set7E => Sys2Proof.Machine.execSet7E s
  | .set7H => Sys2Proof.Machine.execSet7H s
  | .set7L => Sys2Proof.Machine.execSet7L s
  | .set7A => Sys2Proof.Machine.execSet7A s
  -- SET u3, [HL]
  | .set0AtHL => Sys2Proof.Machine.execSet0AtHL s
  | .set1AtHL => Sys2Proof.Machine.execSet1AtHL s
  | .set2AtHL => Sys2Proof.Machine.execSet2AtHL s
  | .set3AtHL => Sys2Proof.Machine.execSet3AtHL s
  | .set4AtHL => Sys2Proof.Machine.execSet4AtHL s
  | .set5AtHL => Sys2Proof.Machine.execSet5AtHL s
  | .set6AtHL => Sys2Proof.Machine.execSet6AtHL s
  | .set7AtHL => Sys2Proof.Machine.execSet7AtHL s

end Sys2Proof.Machine
end

