-- ==== Sys2Proof/Machine/Engine.lean ====
section
/-! DEFINITION. The stepping engine: the environment between steps (60_exceptions.md rule R331), the four branches of
`step()` (30_encoding.md rule R102) and its instruction phase (rule R100). Machine/Step.lean only calls these. -/

namespace Sys2Proof.Machine

/-! ## Between steps -/

/-- The environment takes its next action (R331): it sets IF bits, where there are some to set, and sets a Stopped core
running where the action says so (R333). It emits no event. With no action left it does nothing, the default ENV. That
the actions stand in a list is the model's choice (log entry 5). -/
def State.applyEnv (s : State) : State :=
  match s.env with
  | [] => s
  | act :: rest =>
    { s with
      m := if act.irq == 0 then s.m else (busOf s.cfg.bus).write s.m ifAddr (s.peek ifAddr ||| act.irq.setWidth 8)
      mode := if act.wake && s.mode == .stopped then .running else s.mode
      env := rest }

/-- The outputs of the step before are gone: "Transient; not persisted" (20_memory.md R57). -/
def State.clearEvents (s : State) : State := { s with writes := [] }

/-! ## The instruction phase (R100) -/

/-- The address after the first opcode byte; with `halt_bug` set PC does not advance past it (R100, I1). -/
def State.afterFirst (s : State) : Word := if s.haltBug then s.pc else s.pc + 1

/-- `n` bytes read one after the other from an address, and the state after the reads. -/
def State.readBytes : Nat → Word → State → List Byte × State
  | 0, _, s => ([], s)
  | n + 1, p, s => (s.readByte p :: (State.readBytes n (p + 1) (s.afterRead p)).1,
      (State.readBytes n (p + 1) (s.afterRead p)).2)

/-- The reads of phases I1 and I3: the first opcode byte at PC, then exactly the bytes that belong to it (the byte after
the prefix, or the operands), each read once, in order, at the moment of the step (R115; 20_memory.md R59, R67). -/
def State.fetch (s : State) : List Byte × State :=
  let b0 := s.readByte s.pc
  let more := State.readBytes (bytesAfterFirst b0) s.afterFirst (s.afterRead s.pc)
  (b0 :: more.1, more.2)

/-- Phases I1 to I3: the instruction at PC and its length. -/
def State.decodeNext (s : State) : Except Unimplemented (Instr × Nat) :=
  decodeWindow (s.fetch.1.getD 0 0) (s.fetch.1.getD 1 0) (s.fetch.1.getD 2 0)

/-- The state an instruction of `n` bytes executes in: PC past its encoding and `halt_bug` cleared (I3), the delayed
IME of `EI` (I4, R104), and the step's success marker (I5). -/
def State.enter (s : State) (n : Nat) : State :=
  { s with
    pc := s.afterFirst + BitVec.ofNat 16 (n - 1)
    haltBug := false
    ime := s.ime || s.eiPending
    eiPending := false
    result := some .executed }

/-- Phases I1 to I5: decode and execute the instruction at PC, or report that no definition claims the byte (R101). What
the fetch's reads did to the Bus stays. -/
def State.instructionPhase (s : State) : Result :=
  match s.decodeNext with
  | .error u => .fault (.unimplementedOpcode u.space u.op)
  | .ok (i, n) => exec i (s.fetch.2.enter n)

/-! ## The whole step (R102) -/

/-- The branches S1 to S4, in this order of test. -/
def State.coreStep (s : State) : Result :=
  match s.mode with
  | .stopped => .next { s with result := some .idle }
  | .halted =>
    if s.pending == 0 then .next { s with result := some .idle }
    else .next { s with mode := .running, result := some .woken }
  | .running =>
    match s.irqToTake with
    | some k => .next { s.interruptEntry k with result := some (.dispatched k) }
    | none => s.instructionPhase

/-! ## Placing an instruction where the next step fetches it (log entry 12) -/

/-- Store three bytes at PC, behind the default Bus, which returns them. -/
def State.placeBytes (s : State) (b0 b1 b2 : Byte) : State :=
  { s with
    m := { s.m with mem := ((s.m.mem.write s.pc b0).write (s.pc + 1) b1).write (s.pc + 2) b2 }
    cfg := { s.cfg with bus := .flat } }

/-- Nothing comes before the fetch at PC: the core runs, `halt_bug` is clear, the environment does nothing, and IME is
cleared where an interrupt would be taken. A state right after reset is left as it is. -/
def State.readyToFetch (s : State) : State :=
  { s with
    mode := .running
    haltBug := false
    env := []
    ime := if s.irqToTake.isSome then false else s.ime }

/-- Place the instruction of a table word at PC. -/
def State.placeTableWord (s : State) (nbits w : Nat) : State :=
  match tableWordBytes nbits w with
  | (b0, b1, b2) => (s.placeBytes b0 b1 b2).readyToFetch

end Sys2Proof.Machine
end

