-- ==== Sys2Proof/Machine/Step.lean ====
section
/-! DEFINITION. One step of the machine: the environment acts, then the core's `step()` (30_encoding.md rule R102) runs
once. -/

namespace Sys2Proof.Machine

/-- One step (R102, after what the environment does between the step before and this one, 60_exceptions.md R331). -/
def step (s : State) : Host.Outcome State Fault Refusal := s.applyEnv.clearEvents.coreStep

/-- `s` with the instruction of a table word stored at PC and nothing that comes before its fetch (log entry 12). -/
def State.withFetchWord (s : State) (nbits w : Nat) : State := s.placeTableWord nbits w

end Sys2Proof.Machine
end

