-- ==== Sys2Proof/Machine/Events.lean ====
section
/-! DEFINITION. The events a step outputs (30_encoding.md rule R106, 60_exceptions.md rule R346): its MemoryWrite events
in order, and around them the RegisterWrite events that REG_EVENTS chooses among the register writes the step performs.
Delivery to listeners is the host's. -/

namespace Sys2Proof.Machine

/-! ## Register names -/

/-- The registers a breakpoint or a RegisterWrite event may name, the pairs among them (DESIGN CHOICE, log entry 16). -/
inductive RegName where
  | a | f | b | c | d | e | h | l | af | bc | de | hl | sp | pc
  deriving DecidableEq, Repr

/-- The value of a named register, zero-extended to 16 bits. -/
def State.named (s : State) : RegName → Word
  | .a => s.a.setWidth 16
  | .f => s.f.setWidth 16
  | .b => s.b.setWidth 16
  | .c => s.c.setWidth 16
  | .d => s.d.setWidth 16
  | .e => s.e.setWidth 16
  | .h => s.h.setWidth 16
  | .l => s.l.setWidth 16
  | .af => s.af
  | .bc => s.bc
  | .de => s.de
  | .hl => s.hl
  | .sp => s.sp
  | .pc => s.pc

/-! ## Events -/

/-- A RegisterWrite event. -/
structure RegisterWrite where
  register : RegName
  value : Word
  deriving DecidableEq, Repr

/-- The Event type, with all four variants (90_conflicts.md C8). The core emits the first two only: `hBlank` and `vBlank`
come from the video unit (60_exceptions.md R346). -/
inductive Event where
  | memoryWrite (w : MemoryWrite)
  | registerWrite (w : RegisterWrite)
  | hBlank
  | vBlank
  deriving DecidableEq, Repr

/-! ## The register writes a step performs -/

/-- The registers of one cell each that a name stands for. -/
def RegName.cells : RegName → List RegName
  | .af => [.a, .f]
  | .bc => [.b, .c]
  | .de => [.d, .e]
  | .hl => [.h, .l]
  | r => [r]

/-- The register cells that the rule of each instruction writes, a conditional transfer's when it is taken. A write counts
also where it leaves the value as it was (`LD B, B`). -/
def registersWritten : Instr → List RegName
  | .nop | .ldAtBCA | .ldAtDEA | .ldAtHLN8 _ | .ldAtN16SP _ | .stop _ | .ldAtHLB | .ldAtHLC | .ldAtHLD | .ldAtHLE
  | .ldAtHLH | .ldAtHLL | .ldAtHLA | .halt | .ldhAtN8A _ | .ldhAtCA | .ldAtN16A _ | .di | .ei | .res0AtHL
  | .res1AtHL | .res2AtHL | .res3AtHL | .res4AtHL | .res5AtHL | .res6AtHL | .res7AtHL | .set0AtHL | .set1AtHL
  | .set2AtHL | .set3AtHL | .set4AtHL | .set5AtHL | .set6AtHL | .set7AtHL => []
  | .ldAN8 _ | .ldAAtBC | .ldAAtDE | .ldAB | .ldAC | .ldAD | .ldAE | .ldAH | .ldAL | .ldAA | .ldAAtHL | .ldhAAtN8 _
  | .ldhAAtC | .ldAAtN16 _ | .res0A | .res1A | .res2A | .res3A | .res4A | .res5A | .res6A | .res7A | .set0A | .set1A
  | .set2A | .set3A | .set4A | .set5A | .set6A | .set7A => [.a]
  | .incAtHL | .decAtHL | .scf | .ccf | .cpAB | .cpAC | .cpAD | .cpAE | .cpAH | .cpAL | .cpAA | .cpAAtHL | .cpAN8 _
  | .rlcAtHL | .rrcAtHL | .rlAtHL | .rrAtHL | .slaAtHL | .sraAtHL | .swapAtHL | .srlAtHL | .bit0B | .bit0C | .bit0D
  | .bit0E | .bit0H | .bit0L | .bit0A | .bit1B | .bit1C | .bit1D | .bit1E | .bit1H | .bit1L | .bit1A | .bit2B
  | .bit2C | .bit2D | .bit2E | .bit2H | .bit2L | .bit2A | .bit3B | .bit3C | .bit3D | .bit3E | .bit3H | .bit3L
  | .bit3A | .bit4B | .bit4C | .bit4D | .bit4E | .bit4H | .bit4L | .bit4A | .bit5B | .bit5C | .bit5D | .bit5E
  | .bit5H | .bit5L | .bit5A | .bit6B | .bit6C | .bit6D | .bit6E | .bit6H | .bit6L | .bit6A | .bit7B | .bit7C
  | .bit7D | .bit7E | .bit7H | .bit7L | .bit7A | .bit0AtHL | .bit1AtHL | .bit2AtHL | .bit3AtHL | .bit4AtHL
  | .bit5AtHL | .bit6AtHL | .bit7AtHL => [.f]
  | .ldBN8 _ | .ldBB | .ldBC | .ldBD | .ldBE | .ldBH | .ldBL | .ldBA | .ldBAtHL | .res0B | .res1B | .res2B | .res3B
  | .res4B | .res5B | .res6B | .res7B | .set0B | .set1B | .set2B | .set3B | .set4B | .set5B | .set6B | .set7B => [.b]
  | .ldCN8 _ | .ldCB | .ldCC | .ldCD | .ldCE | .ldCH | .ldCL | .ldCA | .ldCAtHL | .res0C | .res1C | .res2C | .res3C
  | .res4C | .res5C | .res6C | .res7C | .set0C | .set1C | .set2C | .set3C | .set4C | .set5C | .set6C | .set7C => [.c]
  | .ldDN8 _ | .ldDB | .ldDC | .ldDD | .ldDE | .ldDH | .ldDL | .ldDA | .ldDAtHL | .res0D | .res1D | .res2D | .res3D
  | .res4D | .res5D | .res6D | .res7D | .set0D | .set1D | .set2D | .set3D | .set4D | .set5D | .set6D | .set7D => [.d]
  | .ldEN8 _ | .ldEB | .ldEC | .ldED | .ldEE | .ldEH | .ldEL | .ldEA | .ldEAtHL | .res0E | .res1E | .res2E | .res3E
  | .res4E | .res5E | .res6E | .res7E | .set0E | .set1E | .set2E | .set3E | .set4E | .set5E | .set6E | .set7E => [.e]
  | .ldHN8 _ | .ldHB | .ldHC | .ldHD | .ldHE | .ldHH | .ldHL | .ldHA | .ldHAtHL | .res0H | .res1H | .res2H | .res3H
  | .res4H | .res5H | .res6H | .res7H | .set0H | .set1H | .set2H | .set3H | .set4H | .set5H | .set6H | .set7H => [.h]
  | .ldLN8 _ | .ldLB | .ldLC | .ldLD | .ldLE | .ldLH | .ldLL | .ldLA | .ldLAtHL | .res0L | .res1L | .res2L | .res3L
  | .res4L | .res5L | .res6L | .res7L | .set0L | .set1L | .set2L | .set3L | .set4L | .set5L | .set6L | .set7L => [.l]
  | .ldSPN16 _ | .incSP | .decSP | .pushBC | .pushDE | .pushHL | .pushAF | .ldSPHL => [.sp]
  | .jrE8 _ | .jrNZE8 _ | .jrZE8 _ | .jrNCE8 _ | .jrCE8 _ | .jpNZN16 _ | .jpZN16 _ | .jpNCN16 _ | .jpCN16 _
  | .jpN16 _ | .jpHL => [.pc]
  | .incA | .decA | .rlca | .rrca | .rla | .rra | .daa | .cpl | .addAB | .addAC | .addAD | .addAE | .addAH | .addAL
  | .addAA | .addAAtHL | .addAN8 _ | .adcAB | .adcAC | .adcAD | .adcAE | .adcAH | .adcAL | .adcAA | .adcAAtHL
  | .adcAN8 _ | .subAB | .subAC | .subAD | .subAE | .subAH | .subAL | .subAA | .subAAtHL | .subAN8 _ | .sbcAB
  | .sbcAC | .sbcAD | .sbcAE | .sbcAH | .sbcAL | .sbcAA | .sbcAAtHL | .sbcAN8 _ | .andAB | .andAC | .andAD | .andAE
  | .andAH | .andAL | .andAA | .andAAtHL | .andAN8 _ | .xorAB | .xorAC | .xorAD | .xorAE | .xorAH | .xorAL | .xorAA
  | .xorAAtHL | .xorAN8 _ | .orAB | .orAC | .orAD | .orAE | .orAH | .orAL | .orAA | .orAAtHL | .orAN8 _ | .rlcA
  | .rrcA | .rlA | .rrA | .slaA | .sraA | .swapA | .srlA => [.a, .f]
  | .incB | .decB | .rlcB | .rrcB | .rlB | .rrB | .slaB | .sraB | .swapB | .srlB => [.f, .b]
  | .incC | .decC | .rlcC | .rrcC | .rlC | .rrC | .slaC | .sraC | .swapC | .srlC => [.f, .c]
  | .incD | .decD | .rlcD | .rrcD | .rlD | .rrD | .slaD | .sraD | .swapD | .srlD => [.f, .d]
  | .incE | .decE | .rlcE | .rrcE | .rlE | .rrE | .slaE | .sraE | .swapE | .srlE => [.f, .e]
  | .incH | .decH | .rlcH | .rrcH | .rlH | .rrH | .slaH | .sraH | .swapH | .srlH => [.f, .h]
  | .incL | .decL | .rlcL | .rrcL | .rlL | .rrL | .slaL | .sraL | .swapL | .srlL => [.f, .l]
  | .addSPE8 _ => [.f, .sp]
  | .ldBCN16 _ | .incBC | .decBC => [.b, .c]
  | .ldDEN16 _ | .incDE | .decDE => [.d, .e]
  | .ldHLN16 _ | .ldAtHLIncA | .ldAtHLDecA | .incHL | .decHL => [.h, .l]
  | .retNZ | .retZ | .retNC | .retC | .callNZN16 _ | .callZN16 _ | .callNCN16 _ | .callCN16 _ | .rst00 | .rst08
  | .rst10 | .rst18 | .rst20 | .rst28 | .rst30 | .rst38 | .ret | .reti | .callN16 _ => [.sp, .pc]
  | .popAF => [.a, .f, .sp]
  | .ldAAtHLInc | .ldAAtHLDec => [.a, .h, .l]
  | .addHLBC | .addHLDE | .addHLHL | .addHLSP | .ldHLSPE8 _ => [.f, .h, .l]
  | .popBC => [.b, .c, .sp]
  | .popDE => [.d, .e, .sp]
  | .popHL => [.h, .l, .sp]

/-- The condition an instruction executes under, if it has one: not taken, it writes nothing (46_control.md R271, R274,
R276, R278). -/
def conditionOf : Instr → Option Cond
  | .jpNZN16 _ | .jrNZE8 _ | .callNZN16 _ | .retNZ => some .nz
  | .jpZN16 _ | .jrZE8 _ | .callZN16 _ | .retZ => some .z
  | .jpNCN16 _ | .jrNCE8 _ | .callNCN16 _ | .retNC => some .nc
  | .jpCN16 _ | .jrCE8 _ | .callCN16 _ | .retC => some .c
  | _ => none

/-- The register cells that the step from `before` to `after` writes while it executes: those of its instruction, or SP
and PC where it takes an interrupt (60_exceptions.md R327), or none where it idles or wakes. Phase I3's advance of PC
and the updates of IME, `ei_pending`, `halt_bug` and the mode are not among them (92_eei_decisions.md D25). -/
def stepWrites (before after : State) : List RegName :=
  match after.result with
  | some .executed =>
    match before.applyEnv.clearEvents.decodeNext with
    | .ok (i, _) => if (conditionOf i).all before.cond then registersWritten i else []
    | .error _ => []
  | some (.dispatched _) => [.sp, .pc]
  | some .idle => []
  | some .woken => []
  | none => []

/-- Whether a RegisterWrite event reports a write of a step that writes the cells `written`: it names a written register,
or a pair with one in it, and its value is the one that register is left with. F and SP may be written in parts (flag by
flag, byte by byte), so an event that names them may show a value in between. -/
def reports (written : List RegName) (after : State) (e : RegisterWrite) : Bool :=
  e.register.cells.any written.contains &&
    (e.register.cells.contains .f || e.register.cells.contains .sp || e.value == after.named e.register)

/-! ## The events of a step (30_encoding.md R106) -/

/-- `REG_EVENTS` (00_scope.md R8, unconstrained): the RegisterWrite events of the step from `before` to `after` that stand
just before its MemoryWrite event number `k`, or, for the last `k`, after all of them. A FREE VALUE (log entry 7): nothing
says which register writes emit an event. -/
opaque Config.regEvents (before after : State) (k : Nat) : List RegisterWrite

/-- RegisterWrite events around the MemoryWrite events, which keep their order; `k` counts them. -/
def weave (free : Nat → List RegisterWrite) : Nat → List MemoryWrite → List Event
  | k, [] => (free k).map .registerWrite
  | k, w :: ws => (free k).map .registerWrite ++ .memoryWrite w :: weave free (k + 1) ws

/-- The ordered event list the step from `before` to `after` outputs: of what `REG_EVENTS` chooses, the events that report
a register write the step performs (R106); delivery is the host's (60_exceptions.md R346). -/
def stepEvents (before after : State) : List Event :=
  weave (fun k => (Config.regEvents before after k).filter (reports (stepWrites before after) after)) 0 after.writes

end Sys2Proof.Machine
end

