-- ==== Sys2Proof/Machine/Wrapper.lean ====
section
/-! DEFINITION. The boundary between the core and the host that drives it (60_exceptions.md rules R345 to R348): reset by
LoadRom (70_reset_and_hazards.md rules R360, R361), queries, breakpoints evaluated between steps, and which results stop
a running mode. The protocol itself is out of scope (00_scope.md rule R5); nothing here is visible to a program. -/

namespace Sys2Proof.Machine

/-! ## The launch parameters that only LoadRom reads (00_scope.md R8) -/

/-- The specific reason a LoadRom fails with (R347: "malformed/undersized image"). -/
inductive LoadFailure where
  | malformed | undersized
  deriving DecidableEq, Repr

/-- RESET_REGS and ROM_VALID. They are arguments of LoadRom and no part of State. -/
structure Launch where
  /-- `RESET_REGS(MODEL)`: the registers after reset. It is given the header checksum byte of `mem0` too, on which the
  default table depends (70_reset_and_hazards.md R361). -/
  resetRegs : ConsoleModel → Byte → RegFile
  /-- `ROM_VALID(bytes, model)`: none where the image is valid, and otherwise the reason to report (R347). -/
  romFailure : List Byte → ConsoleModel → Option LoadFailure

/-- Bits 3..0 of every F value are clear, "as 10_state.md rule R25 requires" (70_reset_and_hazards.md R361). -/
def Launch.wf (p : Launch) : Prop := ∀ model checksum, (p.resetRegs model checksum).f &&& 0x0F = 0

/-- `RESET_REGS(MODEL)`, the default table (70_reset_and_hazards.md R361). `checksum` is the cartridge header checksum
byte of `mem0`, at 0x014D: on DMG and MGB, H and C are set exactly when it is not zero. The table leaves the other
variants out: their values are free, F's low bits apart (log entry 3). -/
def defaultResetRegs (model : ConsoleModel) (checksum : Byte) : RegFile :=
  let f : Byte := if checksum == 0 then 0x80 else 0xB0
  match model with
  | .dmg => { a := 0x01, f := f, b := 0x00, c := 0x13, d := 0x00, e := 0xD8, h := 0x01, l := 0x4D }
  | .mgb => { a := 0xFF, f := f, b := 0x00, c := 0x13, d := 0x00, e := 0xD8, h := 0x01, l := 0x4D }
  | .sgb => { a := 0x01, f := 0x00, b := 0x00, c := 0x14, d := 0x00, e := 0x00, h := 0xC0, l := 0x60 }
  | .sgb2 => { a := 0xFF, f := 0x00, b := 0x00, c := 0x14, d := 0x00, e := 0x00, h := 0xC0, l := 0x60 }
  | .cgb => { a := 0x11, f := 0x80, b := 0x00, c := 0x00, d := 0xFF, e := 0x56, h := 0x00, l := 0x0D }
  | .other n => { Config.otherResetRegs n checksum with f := (Config.otherResetRegs n checksum).f &&& 0xF0 }

/-- The defaults of 00_scope.md R8: the table above, and every image valid. -/
def Launch.default : Launch := { resetRegs := defaultResetRegs, romFailure := fun _ _ => none }

/-! ## LoadRom -/

/-- The state a successful LoadRom leaves (R347, R360): the registers of `RESET_REGS(MODEL)`, memory the `mem0` in which the
loader has placed the image (20_memory.md R63), its header checksum read at 0x014D (R361). The core writes no memory
(R362). `env` is what the environment will do. -/
def State.loadRom (p : Launch) (cfg : Config) (mem0 : BusState) (env : List EnvAction) : State :=
  let r := p.resetRegs cfg.model (mem0.mem.read 0x014D)
  { a := r.a, f := r.f, b := r.b, c := r.c, d := r.d, e := r.e, h := r.h, l := r.l
    sp := 0xFFFE
    pc := 0x0100
    ime := false
    eiPending := false
    haltBug := false
    mode := .running
    m := mem0
    writes := []
    result := none
    env := env
    cfg := cfg }

/-! ## Queries (10_state.md R41) -/

/-- The answer of QueryRegisters: the register file, SP and PC. -/
structure RegisterView where
  regs : RegFile
  sp : Word
  pc : Word
  deriving DecidableEq, Repr

/-- QueryRegisters: it changes nothing. -/
def State.queryRegisters (s : State) : RegisterView :=
  { regs := { a := s.a, f := s.f, b := s.b, c := s.c, d := s.d, e := s.e, h := s.h, l := s.l }, sp := s.sp, pc := s.pc }

/-- QueryMemory: the bytes of a range, read with peek. A range past 0xFFFF is refused (log entry 16). -/
def State.queryMemory (s : State) (start : Word) (count : Nat) : Option (List Byte) :=
  if start.toNat + count ≤ 65536 then
    some ((List.range count).map (fun k => s.peek (start + BitVec.ofNat 16 k)))
  else none

/-! ## Breakpoints (R345): "named register equals literal" -/

/-- A breakpoint. -/
structure Breakpoint where
  id : Nat
  reg : RegName
  value : Word
  deriving DecidableEq, Repr

/-- The predicate of a breakpoint, on the state after a step. -/
def Breakpoint.hit (bp : Breakpoint) (s : State) : Bool := s.named bp.reg == bp.value

/-! ## The wrapper -/

/-- The execution modes (R348). -/
inductive ExecMode where
  | unloaded | paused | standard | uncapped
  deriving DecidableEq, Repr

/-- The host's view: the core it owns, its mode, its breakpoints. -/
structure Wrapper where
  core : State
  execMode : ExecMode
  breakpoints : List Breakpoint
  deriving DecidableEq, Repr

/-- What the host reports after a step. -/
inductive Notice where
  /-- The step returned this success marker. -/
  | stepped (r : Option StepResult)
  /-- A breakpoint fired: the host is Paused. -/
  | breakpointHit (bp : Breakpoint)
  /-- The step returned the error of R320: the host is Paused, the core as it was, apart from what the environment did
  before the step and what the fetch's read did to the Bus (30_encoding.md R101). -/
  | stepError (f : Fault)
  /-- The core refused the instruction. -/
  | refused (r : Refusal)
  /-- No program is loaded. -/
  | notLoaded
  /-- LoadRom succeeded. -/
  | loaded
  /-- LoadRom failed, for this reason. -/
  | loadFailed (r : LoadFailure)
  deriving DecidableEq, Repr

/-- Whether a mode runs steps continuously. -/
def ExecMode.runs : ExecMode → Bool
  | .standard => true
  | .uncapped => true
  | .paused => false
  | .unloaded => false

/-- One `step()` of the core under the host (R345, R348). In a running mode the breakpoints are evaluated after the
completed step, and the first that holds stops the mode; a step error stops it too. In Paused this is the `Step`
command: one step, whatever its result, and still Paused. -/
def Wrapper.runStep (h : Wrapper) : Wrapper × Notice :=
  match h.execMode with
  | .unloaded => (h, .notLoaded)
  | m =>
    match step h.core with
    | .next t =>
      match if m.runs then h.breakpoints.find? (fun bp => bp.hit t) else none with
      | some bp => ({ h with core := t, execMode := .paused }, .breakpointHit bp)
      | none => ({ h with core := t }, .stepped t.result)
    | .fault f => ({ h with core := h.core.applyEnv.clearEvents.fetch.2, execMode := .paused }, .stepError f)
    | .refused r => ({ h with execMode := .paused }, .refused r)

/-- SetExecMode: `Unloaded` is not a mode the host can select, and it is left only by LoadRom. -/
def Wrapper.setExecMode (h : Wrapper) (m : ExecMode) : Wrapper :=
  if h.execMode == .unloaded || m == .unloaded then h else { h with execMode := m }

/-- SetBreakpoint, with an id no installed breakpoint has. DESIGN CHOICE (log entry 16): the spec does not say which
specifications are invalid, and the model installs every one of the form "named register equals literal", a literal above
0xFF for an 8-bit register among them, which never fires. -/
def Wrapper.setBreakpoint (h : Wrapper) (reg : RegName) (value : Word) : Wrapper :=
  let id := h.breakpoints.foldl (fun n bp => max n (bp.id + 1)) 0
  { h with breakpoints := h.breakpoints ++ [{ id := id, reg := reg, value := value }] }

/-- RemoveBreakpoint. -/
def Wrapper.removeBreakpoint (h : Wrapper) (id : Nat) : Wrapper :=
  { h with breakpoints := h.breakpoints.filter (fun bp => bp.id != id) }

/-- LoadRom (R347). A valid image resets the core and leaves the host Paused; `mem0` is memory with the image placed in it
by the loader. An invalid one disturbs nothing, and the specific reason is reported. -/
def Wrapper.loadRom (h : Wrapper) (p : Launch) (bytes : List Byte) (model : ConsoleModel) (mem0 : BusState) :
    Wrapper × Notice :=
  match p.romFailure bytes model with
  | some r => (h, .loadFailed r)
  | none =>
    ({ h with core := State.loadRom p { h.core.cfg with model := model } mem0 h.core.env, execMode := .paused }, .loaded)

end Sys2Proof.Machine
end

