-- ==== Sys2Proof/Safety.lean ====
section
/-! DEFINITION. What counts as a safe state and a safe step, in the terms claims use. -/

namespace Sys2Proof.Machine

/-- The invariant of the machine: what holds in every state a run can reach. -/
structure State.Inv (s : State) : Prop where
  /-- Bits 3..0 of F are 0 (10_state.md R25). -/
  flagsLow : s.f &&& 0x0F = 0
  /-- Memory is in its canonical form. -/
  memory : s.m.mem.wf
  /-- `EI`'s delay ends before the core can halt or stop (30_encoding.md R104). -/
  eiPendingRuns : s.eiPending = true → s.mode = .running
  /-- `halt_bug` is set only while the core runs with IME = 0 and no `EI` waits (47_system.md R302, 60_exceptions.md
  R328); and an interrupt is pending, behind the default Bus. -/
  haltBugRuns : s.haltBug = true →
    s.mode = .running ∧ s.ime = false ∧ s.eiPending = false ∧ s.cfg.haltBug = true ∧ (s.cfg.bus = .flat → s.pending ≠ 0)

/-- A step from this state gives a next state: no fault, no refusal. -/
def State.StepsOn (s : State) : Prop := ∃ t, step s = .next t

/-- The states a run can reach: a loaded image in canonical form, under any parameters, behind any Bus and with any
environment, and then any number of steps. -/
inductive State.Reachable : State → Prop where
  | loaded (p : Launch) (cfg : Config) (mem0 : BusState) (env : List EnvAction) (hp : p.wf) (h : mem0.mem.wf) :
      State.Reachable (State.loadRom p cfg mem0 env)
  | stepped {s t : State} (h : State.Reachable s) (hs : step s = .next t) : State.Reachable t

end Sys2Proof.Machine
end

