-- ==== Sys2Proof/Certificates/Slice0/Obligations.lean ====
section
/-! DEFINITION. The statements for the provers. The helpers of `Claims` come first: how an encoding is written, and what
an instruction leaves unchanged. A form `Form.x` of Decode.lean stands for all its rows, one for each value of
its operands; a definition without a field is its one constructor.

Memory is said twice. Behind every Bus, a statement gives the exact transactions of an instruction, in order: the reads
it makes and the bytes it stores. Behind the default flat Bus, it says what that is byte by byte. -/

open Sys2Proof Sys2Proof.Machine

namespace Sys2Proof.Claims

/-! ## Field codes (30_encoding.md R84) -/

def code8 : Reg8 → Byte
  | .b => 0 | .c => 1 | .d => 2 | .e => 3 | .h => 4 | .l => 5 | .a => 7

def code16 : R16 → Byte
  | .bc => 0 | .de => 1 | .hl => 2 | .sp => 3

def codeStk : R16Stk → Byte
  | .bc => 0 | .de => 1 | .hl => 2

def codePtr : R16Ptr → Byte
  | .bc => 0 | .de => 1

def codeCond : Cond → Byte
  | .nz => 0 | .z => 1 | .nc => 2 | .c => 3

def codeBit : Bit3 → Byte
  | .b0 => 0 | .b1 => 1 | .b2 => 2 | .b3 => 3 | .b4 => 4 | .b5 => 5 | .b6 => 6 | .b7 => 7

def codeRst : Rst → Byte
  | .v00 => 0 | .v08 => 1 | .v10 => 2 | .v18 => 3 | .v20 => 4 | .v28 => 5 | .v30 => 6 | .v38 => 7

/-- The truth of a condition, by the bits of F (10_state.md R27). -/
def holds (cc : Cond) (s : State) : Prop :=
  match cc with
  | .nz => s.f.getLsbD 7 = false
  | .z => s.f.getLsbD 7 = true
  | .nc => s.f.getLsbD 4 = false
  | .c => s.f.getLsbD 4 = true

/-! ## What stays -/

/-- Every 8-bit register outside `but` keeps its value. -/
def Regs (but : List Reg8) (s t : State) : Prop := ∀ r, r ∉ but → t.reg r = s.reg r

/-- The flags of `t`, and bits 3..0 of F as before (10_state.md R24, R25). -/
def FlagsAre (z n h c : Bool) (s t : State) : Prop :=
  t.f.getLsbD 7 = z ∧ t.f.getLsbD 6 = n ∧ t.f.getLsbD 5 = h ∧ t.f.getLsbD 4 = c ∧ t.f &&& 0x0F = s.f &&& 0x0F

/-- IME, `ei_pending`, `halt_bug`, the mode, and the model's own fields but the events. -/
def Control (s t : State) : Prop :=
  t.ime = s.ime ∧ t.eiPending = s.eiPending ∧ t.haltBug = s.haltBug ∧ t.mode = s.mode ∧
    t.result = s.result ∧ t.env = s.env ∧ t.cfg = s.cfg

/-- The machine's Bus. -/
def bus (s : State) : Bus := busOf s.cfg.bus

/-- The Bus is the default flat array. -/
def Flat (s : State) : Prop := s.cfg.bus = .flat

/-- The bus state after reads at some addresses, in order. -/
def afterReads (reads : List Word) (s : State) : BusState := (bus s).after (reads.map .read) s.m

/-- The second of two reads: the byte read at `y` after a read at `x`. -/
def readSecond (x y : Word) (s : State) : Byte := (s.afterRead x).readByte y

/-- The Bus sees exactly the reads at `reads`, in order; no byte is stored, and no MemoryWrite event is emitted. -/
def NoStore (reads : List Word) (s t : State) : Prop :=
  t.m = afterReads reads s ∧ t.writes = s.writes ∧ (Flat s → ∀ x, t.peek x = s.peek x)

/-- After the reads at `reads`, one byte is stored, and one MemoryWrite event is emitted, with the byte peeked before the
store (20_memory.md R57). -/
def Store1 (reads : List Word) (a : Word) (v : Byte) (s t : State) : Prop :=
  t.m = (bus s).write (afterReads reads s) a v ∧
    t.writes = s.writes ++ [⟨a, (bus s).peek (afterReads reads s) a, v⟩] ∧
    (Flat s → t.peek a = v ∧ (∀ x, x ≠ a → t.peek x = s.peek x) ∧ t.writes = s.writes ++ [⟨a, s.peek a, v⟩])

/-- Two bytes are stored, `v` at `a` and then `w` at `b`, with one MemoryWrite event each. -/
def Store2 (a : Word) (v : Byte) (b : Word) (w : Byte) (s t : State) : Prop :=
  t.m = (bus s).write ((bus s).write s.m a v) b w ∧
    t.writes = s.writes ++ [⟨a, s.peek a, v⟩, ⟨b, (bus s).peek ((bus s).write s.m a v) b, w⟩] ∧
    (Flat s → t.peek a = v ∧ t.peek b = w ∧ (∀ x, x ≠ a → x ≠ b → t.peek x = s.peek x) ∧
      t.writes = s.writes ++ [⟨a, s.peek a, v⟩, ⟨b, s.peek b, w⟩])

/-- Nothing changes but the registers `but` and the flags; the Bus sees the reads at `reads`. -/
def OnlyFlagsAnd (but : List Reg8) (reads : List Word) (s t : State) : Prop :=
  Regs but s t ∧ t.sp = s.sp ∧ t.pc = s.pc ∧ Control s t ∧ NoStore reads s t

/-- Nothing changes but the registers `but`; the Bus sees the reads at `reads`. -/
def Only (but : List Reg8) (reads : List Word) (s t : State) : Prop := t.f = s.f ∧ OnlyFlagsAnd but reads s t

/-- No register changes, PC and SP and the control state neither; memory may. -/
def OnlyMemory (s t : State) : Prop :=
  Regs [] s t ∧ t.f = s.f ∧ t.sp = s.sp ∧ t.pc = s.pc ∧ Control s t

/-- No register changes but PC and SP; the control state stays; memory may change. -/
def OnlyPcSp (s t : State) : Prop := Regs [] s t ∧ t.f = s.f ∧ Control s t

/-- Instruction `i` has the encoding `bytes`, and executing it in `s` answers a next state with `post`. -/
def Runs (i : Instr) (bytes : List Byte) (s : State) (post : State → Prop) : Prop :=
  encode i = bytes ∧ ∃ t, exec i s = .next t ∧ post t

/-- The halves of a pair, none for SP. -/
def halves : R16 → List Reg8
  | .bc => [.b, .c] | .de => [.d, .e] | .hl => [.h, .l] | .sp => []

def halvesStk : R16Stk → List Reg8
  | .bc => [.b, .c] | .de => [.d, .e] | .hl => [.h, .l]

/-- A pair or SP takes the value `v`; SP stays where the operand is a pair. -/
def PairIs (p : R16) (v : Word) (s t : State) : Prop :=
  t.r16 p = v ∧ Regs (halves p) s t ∧ (p ≠ .sp → t.sp = s.sp) ∧ t.f = s.f ∧ t.pc = s.pc ∧ Control s t ∧
    NoStore [] s t

/-! ## Results -/

/-- A load of register `r` with `v`, no memory read. -/
def Loads (r : Reg8) (v : Byte) (s t : State) : Prop := t.reg r = v ∧ Only [r] [] s t

/-- A load of register `r` with the byte read at `a`. -/
def LoadsFrom (r : Reg8) (a : Word) (s t : State) : Prop := t.reg r = s.readByte a ∧ Only [r] [a] s t

/-- A store of `v` at `a`, and nothing else. -/
def Stores (a : Word) (v : Byte) (s t : State) : Prop := Store1 [] a v s t ∧ OnlyMemory s t

/-- `A <- A + b + ci` with its flags, on exact integers (43_alu8.md R180); `b` was read at `reads`, if from memory. -/
def Added (b : Byte) (reads : List Word) (ci : Bool) (s t : State) : Prop :=
  t.a.toNat = (s.a.toNat + b.toNat + ci.toNat) % 256 ∧
    FlagsAre (t.a == 0) false (decide (s.a.toNat % 16 + b.toNat % 16 + ci.toNat > 15))
      (decide (s.a.toNat + b.toNat + ci.toNat > 255)) s t ∧
    OnlyFlagsAnd [.a] reads s t

/-- The flags of `A - b - ci`, whose result is `r` (43_alu8.md R180). -/
def BorrowFlags (r : Byte) (b : Byte) (ci : Bool) (s t : State) : Prop :=
  FlagsAre (r == 0) true (decide (s.a.toNat % 16 < b.toNat % 16 + ci.toNat))
    (decide (s.a.toNat < b.toNat + ci.toNat)) s t

/-- `A <- A - b - ci` with its flags. -/
def Subtracted (b : Byte) (reads : List Word) (ci : Bool) (s t : State) : Prop :=
  t.a.toNat = (s.a.toNat + 256 - b.toNat - ci.toNat) % 256 ∧ BorrowFlags t.a b ci s t ∧ OnlyFlagsAnd [.a] reads s t

/-- The flags of `A - b`, A not written. -/
def Compared (b : Byte) (reads : List Word) (s t : State) : Prop :=
  BorrowFlags (s.a - b) b false s t ∧ OnlyFlagsAnd [] reads s t

/-- A logic operation with result `v`; H is its constant. -/
def Logic (v : Byte) (reads : List Word) (h : Bool) (s t : State) : Prop :=
  t.a = v ∧ FlagsAre (v == 0) false h false s t ∧ OnlyFlagsAnd [.a] reads s t

/-- `r <- v + 1`'s flags: C is kept. -/
def IncFlags (v : Byte) (s t : State) : Prop :=
  FlagsAre (v == 0xFF) false (decide (v.toNat % 16 = 15)) (s.f.getLsbD 4) s t

/-- `r <- v - 1`'s flags: C is kept. -/
def DecFlags (v : Byte) (s t : State) : Prop :=
  FlagsAre (v == 0x01) true (decide (v.toNat % 16 = 0)) (s.f.getLsbD 4) s t

/-- Memory at HL is read once and then written once, with `v` (20_memory.md R58); the registers but F stay. -/
def Rewrites (v : Byte) (s t : State) : Prop :=
  Store1 [s.hl] s.hl v s t ∧ Regs [] s t ∧ t.sp = s.sp ∧ t.pc = s.pc ∧ Control s t

/-- The table of the shift function (45_rotate_shift_bit.md R240) on numbers: the result, with old carry `c`. -/
def shifted (op : ShiftOp) (x c : Nat) : Nat :=
  match op with
  | .rlc => 2 * x % 256 + x / 128
  | .rrc => x / 2 + 128 * (x % 2)
  | .rl => 2 * x % 256 + c
  | .rr => x / 2 + 128 * c
  | .sla => 2 * x % 256
  | .sra => x / 2 + 128 * (x / 128)
  | .swap => 16 * (x % 16) + x / 16
  | .srl => x / 2

/-- The bit shifted out (R240). -/
def shiftedOut (op : ShiftOp) (x : Byte) : Bool :=
  match op with
  | .rlc | .rl | .sla => x.getLsbD 7
  | .rrc | .rr | .sra | .srl => x.getLsbD 0
  | .swap => false

/-- A shift of a register. -/
def ShiftsReg (op : ShiftOp) (r : Reg8) (s t : State) : Prop :=
  (t.reg r).toNat = shifted op (s.reg r).toNat (s.f.getLsbD 4).toNat ∧
    FlagsAre (t.reg r == 0) false false (shiftedOut op (s.reg r)) s t ∧ OnlyFlagsAnd [r] [] s t

/-- A shift of memory at HL. -/
def ShiftsMem (op : ShiftOp) (s t : State) : Prop :=
  ∃ v : Byte, v.toNat = shifted op (s.readByte s.hl).toNat (s.f.getLsbD 4).toNat ∧ Rewrites v s t ∧
    FlagsAre (v == 0) false false (shiftedOut op (s.readByte s.hl)) s t

/-- An accumulator rotate: Z is cleared always. -/
def RotatesA (op : ShiftOp) (s t : State) : Prop :=
  t.a.toNat = shifted op s.a.toNat (s.f.getLsbD 4).toNat ∧
    FlagsAre false false false (shiftedOut op s.a) s t ∧ OnlyFlagsAnd [.a] [] s t

/-- PC takes the value `v`, and nothing else changes. -/
def Jumps (v : Word) (s t : State) : Prop := t.pc = v ∧ t.sp = s.sp ∧ OnlyPcSp s t ∧ NoStore [] s t

/-- PC is pushed, high byte first, and takes the value `v` (00_scope.md R13). -/
def Calls (v : Word) (s t : State) : Prop :=
  t.pc = v ∧ t.sp = s.sp - 2 ∧ Store2 (s.sp - 1) (hi s.pc) (s.sp - 2) (lo s.pc) s t ∧ OnlyPcSp s t

/-- PC is popped: the low byte from SP, the high byte from SP+1. -/
def Returns (s t : State) : Prop :=
  t.pc = concat (readSecond s.sp (s.sp + 1) s) (s.readByte s.sp) ∧ t.sp = s.sp + 2 ∧ OnlyPcSp s t ∧
    NoStore [s.sp, s.sp + 1] s t

/-- A conditional transfer: taken as `post`, or nothing. -/
def IfHolds (cc : Cond) (post : State → State → Prop) (s t : State) : Prop :=
  (holds cc s → post s t) ∧ (¬ holds cc s → t = s)

/-- Two decimal digits as a BCD byte. -/
def bcd (n : Nat) : Byte := BitVec.ofNat 8 (16 * (n / 10) + n % 10)

/-- The state a step begins its branches in: the environment has acted and the step before's events are gone. -/
def atStart (s : State) : State := s.applyEnv.clearEvents

/-- No interrupt is taken at the start of this step (60_exceptions.md R323). -/
def NoIrq (s : State) : Prop :=
  s.cfg.irqDispatch = false ∨ s.ime = false ∨ s.peek 0xFFFF &&& s.peek 0xFF0F &&& 0x1F = 0

/-- The primary bytes that no definition claims, the prefix apart (30_encoding.md R99). -/
def unclaimed : List Byte := [0xD3, 0xDB, 0xDD, 0xE3, 0xE4, 0xEB, 0xEC, 0xED, 0xF4, 0xFC, 0xFD]

/-- The bytes `bs`, read one after the other from `p`, leave `t`. -/
def ReadsAt : Word → List Byte → State → State → Prop
  | _, [], s, t => t = s
  | p, b :: bs, s, t => s.readByte p = b ∧ ReadsAt (p + 1) bs (s.afterRead p) t

/-- The bytes `bs` stand where a step fetches its instruction, the first at PC and the others from the address after it,
or, under `halt_bug`, from PC again (30_encoding.md R100); `t` is the state that reading them leaves. -/
def FetchesTo (bs : List Byte) (s t : State) : Prop :=
  match bs with
  | [] => False
  | b :: rest => s.readByte s.pc = b ∧ ReadsAt (if s.haltBug then s.pc else s.pc + 1) rest (s.afterRead s.pc) t

/-- The RegisterWrite event in an event, if it is one. -/
def registerWrite? : Event → Option RegisterWrite
  | .registerWrite w => some w
  | .memoryWrite _ | .hBlank | .vBlank => none

/-- The MemoryWrite event in an event, if it is one. -/
def memoryWrite? : Event → Option MemoryWrite
  | .memoryWrite w => some w
  | .registerWrite _ | .hBlank | .vBlank => none

/-- The bytes of memory after a list of events is played over the bytes before. -/
def replay (ws : List MemoryWrite) (m : Word → Byte) : Word → Byte :=
  ws.foldl (fun m w x => if x = w.address then w.new else m x) m

/-- Each event's old byte is what memory held just before it. -/
def OldsAgree : List MemoryWrite → (Word → Byte) → Prop
  | [], _ => True
  | w :: ws, m => w.old = m w.address ∧ OldsAgree ws (fun x => if x = w.address then w.new else m x)

end Sys2Proof.Claims

open Sys2Proof.Claims

/-! ## Memory -/

/-- R50, R64: the default Bus is an array of 65536 bytes. A read returns the byte that `peek` shows and changes nothing,
ROM and device addresses included; a write stores the byte at its address and nowhere else. -/
def Obligations.FlatBusIsAByteArray : Prop := ∀ (s : State) (a : Word) (v : Byte), Flat s →
  s.readByte a = s.peek a ∧ s.afterRead a = s ∧
  (s.memWrite a v).peek a = v ∧ (∀ x, x ≠ a → (s.memWrite a v).peek x = s.peek x) ∧
  (s.memWrite a v).readByte a = v ∧ (s.memWrite a v).m.dev = s.m.dev

/-! ## 8-bit loads -/

/-- R130 (49 rows of `LD r8, r8`), R131 (7 rows of `LD r8, n8`), R132 (7 rows of `LD r8, [HL]`). -/
def Obligations.LoadRegister : Prop := ∀ (dst src : Reg8) (n : Byte) (s : State),
  Runs (Form.ldR8R8 dst src) [0x40 + 8 * code8 dst + code8 src] s (Loads dst (s.reg src) s) ∧
  Runs (Form.ldR8N8 dst n) [0x06 + 8 * code8 dst, n] s (Loads dst n s) ∧
  Runs (Form.ldR8AtHL dst) [0x46 + 8 * code8 dst] s (LoadsFrom dst s.hl s)

/-- R133 (7 rows) and R134. -/
def Obligations.StoreAtHL : Prop := ∀ (r : Reg8) (n : Byte) (s : State),
  Runs (Form.ldAtHLR8 r) [0x70 + code8 r] s (Stores s.hl (s.reg r) s) ∧
  Runs (.ldAtHLN8 n) [0x36, n] s (Stores s.hl n s)

/-- R135 (2 rows), R137, R144, R146: A is loaded from the address the form gives. -/
def Obligations.LoadAccumulatorFromMemory : Prop := ∀ (p : R16Ptr) (n : Word) (k : Byte) (s : State),
  Runs (Form.ldAAtPtr p) [0x0A + 16 * codePtr p] s (LoadsFrom .a (s.r16Ptr p) s) ∧
  Runs (.ldAAtN16 n) [0xFA, lo n, hi n] s (LoadsFrom .a n s) ∧
  Runs (.ldhAAtN8 k) [0xF0, k] s (LoadsFrom .a (0xFF00 + k.setWidth 16) s) ∧
  Runs .ldhAAtC [0xF2] s (LoadsFrom .a (0xFF00 + s.c.setWidth 16) s)

/-- R136 (2 rows), R138, R143, R145: A is stored to the address the form gives. -/
def Obligations.StoreAccumulatorToMemory : Prop := ∀ (p : R16Ptr) (n : Word) (k : Byte) (s : State),
  Runs (Form.ldAtPtrA p) [0x02 + 16 * codePtr p] s (Stores (s.r16Ptr p) s.a s) ∧
  Runs (.ldAtN16A n) [0xEA, lo n, hi n] s (Stores n s.a s) ∧
  Runs (.ldhAtN8A k) [0xE0, k] s (Stores (0xFF00 + k.setWidth 16) s.a s) ∧
  Runs .ldhAtCA [0xE2] s (Stores (0xFF00 + s.c.setWidth 16) s.a s)

/-- R139, R140: A from memory at HL, and HL one up or down, with wrapping. -/
def Obligations.LoadAccumulatorAndMoveHL : Prop := ∀ s : State,
  Runs .ldAAtHLInc [0x2A] s (fun t =>
    t.a = s.readByte s.hl ∧ t.hl = s.hl + 1 ∧ Only [.a, .h, .l] [s.hl] s t) ∧
  Runs .ldAAtHLDec [0x3A] s (fun t =>
    t.a = s.readByte s.hl ∧ t.hl = s.hl - 1 ∧ Only [.a, .h, .l] [s.hl] s t)

/-- R141, R142: A to memory at the old HL, and HL one up or down, with wrapping. -/
def Obligations.StoreAccumulatorAndMoveHL : Prop := ∀ s : State,
  Runs .ldAtHLIncA [0x22] s (fun t => Store1 [] s.hl s.a s t ∧ t.hl = s.hl + 1 ∧ Regs [.h, .l] s t ∧
    t.f = s.f ∧ t.sp = s.sp ∧ t.pc = s.pc ∧ Control s t) ∧
  Runs .ldAtHLDecA [0x32] s (fun t => Store1 [] s.hl s.a s t ∧ t.hl = s.hl - 1 ∧ Regs [.h, .l] s t ∧
    t.f = s.f ∧ t.sp = s.sp ∧ t.pc = s.pc ∧ Control s t)

/-! ## 16-bit loads and the stack -/

/-- R160, all 4 rows of `LD r16, n16`; and R162, `LD SP, HL`. -/
def Obligations.LoadPairOrStackPointer : Prop := ∀ (p : R16) (n : Word) (s : State),
  Runs (Form.ldR16N16 p n) [0x01 + 16 * code16 p, lo n, hi n] s (PairIs p n s) ∧
  Runs .ldSPHL [0xF9] s (PairIs .sp s.hl s)

/-- R161: SP is stored at `n16`, the low byte first, the second address with wrapping. -/
def Obligations.StoreStackPointerAbsolute : Prop := ∀ (n : Word) (s : State),
  Runs (.ldAtN16SP n) [0x08, lo n, hi n] s (fun t =>
    Store2 n (lo s.sp) (n + 1) (hi s.sp) s t ∧ OnlyMemory s t)

/-- R163, R223: the sum is signed and wraps; the flags are those of the unsigned sum of the low byte of SP and the raw
operand byte, whatever the sign. -/
def Obligations.StackPointerPlusOffset : Prop := ∀ (k : Byte) (s : State),
  Runs (.ldHLSPE8 (k.signExtend 16)) [0xF8, k] s (fun t =>
    t.hl = s.sp + k.signExtend 16 ∧
    FlagsAre false false (decide (s.sp.toNat % 16 + k.toNat % 16 > 15)) (decide (s.sp.toNat % 256 + k.toNat > 255)) s t ∧
    OnlyFlagsAnd [.h, .l] [] s t) ∧
  Runs (.addSPE8 (k.signExtend 16)) [0xE8, k] s (fun t =>
    t.sp = s.sp + k.signExtend 16 ∧
    FlagsAre false false (decide (s.sp.toNat % 16 + k.toNat % 16 > 15)) (decide (s.sp.toNat % 256 + k.toNat > 255)) s t ∧
    Regs [] s t ∧ t.pc = s.pc ∧ Control s t ∧ NoStore [] s t)

/-- R164 (3 rows), R165: the high byte at SP-1 first, then the low byte at SP-2, with wrapping. -/
def Obligations.PushPair : Prop := ∀ (p : R16Stk) (s : State),
  Runs (Form.pushR16 p) [0xC5 + 16 * codeStk p] s (fun t =>
    Store2 (s.sp - 1) (hi (s.r16Stk p)) (s.sp - 2) (lo (s.r16Stk p)) s t ∧ t.sp = s.sp - 2 ∧ t.pc = s.pc ∧
    OnlyPcSp s t) ∧
  Runs .pushAF [0xF5] s (fun t =>
    Store2 (s.sp - 1) s.a (s.sp - 2) s.f s t ∧ t.sp = s.sp - 2 ∧ t.pc = s.pc ∧ OnlyPcSp s t)

/-- R166, all 3 rows of `POP r16stk`. -/
def Obligations.PopPair : Prop := ∀ (p : R16Stk) (s : State),
  Runs (Form.popR16 p) [0xC1 + 16 * codeStk p] s (fun t =>
    t.r16Stk p = concat (readSecond s.sp (s.sp + 1) s) (s.readByte s.sp) ∧ t.sp = s.sp + 2 ∧
    Regs (halvesStk p) s t ∧ t.f = s.f ∧ t.pc = s.pc ∧ Control s t ∧ NoStore [s.sp, s.sp + 1] s t)

/-- R167: bits 3..0 of F are 0 after it. -/
def Obligations.PopAF : Prop := ∀ s : State,
  Runs .popAF [0xF1] s (fun t =>
    t.a = readSecond s.sp (s.sp + 1) s ∧ t.f = s.readByte s.sp &&& 0xF0 ∧ t.sp = s.sp + 2 ∧
    Regs [.a] s t ∧ t.pc = s.pc ∧ Control s t ∧ NoStore [s.sp, s.sp + 1] s t)

/-! ## 8-bit arithmetic and logic -/

/-- R181 to R186: `ADD` (no carry-in) and `ADC` (carry-in the C flag) over the three sources. -/
def Obligations.AddToAccumulator : Prop := ∀ (r : Reg8) (n : Byte) (s : State),
  Runs (Form.addAR8 r) [0x80 + code8 r] s (Added (s.reg r) [] false s) ∧
  Runs .addAAtHL [0x86] s (Added (s.readByte s.hl) [s.hl] false s) ∧
  Runs (.addAN8 n) [0xC6, n] s (Added n [] false s) ∧
  Runs (Form.adcAR8 r) [0x88 + code8 r] s (Added (s.reg r) [] (s.f.getLsbD 4) s) ∧
  Runs .adcAAtHL [0x8E] s (Added (s.readByte s.hl) [s.hl] (s.f.getLsbD 4) s) ∧
  Runs (.adcAN8 n) [0xCE, n] s (Added n [] (s.f.getLsbD 4) s)

/-- R187 to R192: `SUB` and `SBC` over the three sources. -/
def Obligations.SubtractFromAccumulator : Prop := ∀ (r : Reg8) (n : Byte) (s : State),
  Runs (Form.subAR8 r) [0x90 + code8 r] s (Subtracted (s.reg r) [] false s) ∧
  Runs .subAAtHL [0x96] s (Subtracted (s.readByte s.hl) [s.hl] false s) ∧
  Runs (.subAN8 n) [0xD6, n] s (Subtracted n [] false s) ∧
  Runs (Form.sbcAR8 r) [0x98 + code8 r] s (Subtracted (s.reg r) [] (s.f.getLsbD 4) s) ∧
  Runs .sbcAAtHL [0x9E] s (Subtracted (s.readByte s.hl) [s.hl] (s.f.getLsbD 4) s) ∧
  Runs (.sbcAN8 n) [0xDE, n] s (Subtracted n [] (s.f.getLsbD 4) s)

/-- R193 to R201: `AND` sets H, `XOR` and `OR` clear it. -/
def Obligations.LogicOnAccumulator : Prop := ∀ (r : Reg8) (n : Byte) (s : State),
  Runs (Form.andAR8 r) [0xA0 + code8 r] s (Logic (s.a &&& s.reg r) [] true s) ∧
  Runs .andAAtHL [0xA6] s (Logic (s.a &&& s.readByte s.hl) [s.hl] true s) ∧
  Runs (.andAN8 n) [0xE6, n] s (Logic (s.a &&& n) [] true s) ∧
  Runs (Form.xorAR8 r) [0xA8 + code8 r] s (Logic (s.a ^^^ s.reg r) [] false s) ∧
  Runs .xorAAtHL [0xAE] s (Logic (s.a ^^^ s.readByte s.hl) [s.hl] false s) ∧
  Runs (.xorAN8 n) [0xEE, n] s (Logic (s.a ^^^ n) [] false s) ∧
  Runs (Form.orAR8 r) [0xB0 + code8 r] s (Logic (s.a ||| s.reg r) [] false s) ∧
  Runs .orAAtHL [0xB6] s (Logic (s.a ||| s.readByte s.hl) [s.hl] false s) ∧
  Runs (.orAN8 n) [0xF6, n] s (Logic (s.a ||| n) [] false s)

/-- R202 to R204: the flags of a subtraction, A not written. -/
def Obligations.CompareWithAccumulator : Prop := ∀ (r : Reg8) (n : Byte) (s : State),
  Runs (Form.cpAR8 r) [0xB8 + code8 r] s (Compared (s.reg r) [] s) ∧
  Runs .cpAAtHL [0xBE] s (Compared (s.readByte s.hl) [s.hl] s) ∧
  Runs (.cpAN8 n) [0xFE, n] s (Compared n [] s)

/-- R205, R207, 7 rows each. -/
def Obligations.IncrementDecrementRegister : Prop := ∀ (r : Reg8) (s : State),
  Runs (Form.incR8 r) [0x04 + 8 * code8 r] s (fun t =>
    t.reg r = s.reg r + 1 ∧ IncFlags (s.reg r) s t ∧ OnlyFlagsAnd [r] [] s t) ∧
  Runs (Form.decR8 r) [0x05 + 8 * code8 r] s (fun t =>
    t.reg r = s.reg r - 1 ∧ DecFlags (s.reg r) s t ∧ OnlyFlagsAnd [r] [] s t)

/-- R206, R208. -/
def Obligations.IncrementDecrementMemory : Prop := ∀ s : State,
  Runs .incAtHL [0x34] s (fun t => Rewrites (s.readByte s.hl + 1) s t ∧ IncFlags (s.readByte s.hl) s t) ∧
  Runs .decAtHL [0x35] s (fun t => Rewrites (s.readByte s.hl - 1) s t ∧ DecFlags (s.readByte s.hl) s t)

/-- R209, for every value of A and the flags: the corrections as a wrapping sum. -/
def Obligations.DecimalAdjust : Prop := ∀ s : State,
  let n := s.f.getLsbD 6
  let high := s.f.getLsbD 4 || (!n && decide (s.a.toNat > 0x99))
  let low := s.f.getLsbD 5 || (!n && decide (s.a.toNat % 16 > 9))
  let fix : Byte := (if high then 0x60 else 0) + (if low then 0x06 else 0)
  Runs .daa [0x27] s (fun t =>
    t.a = (if n then s.a - fix else s.a + fix) ∧ FlagsAre (t.a == 0) n false high s t ∧ OnlyFlagsAnd [.a] [] s t)

/-- Derived from R183, R189 and R209: after `ADD` or `SUB` of two-digit BCD numbers, `DAA` gives the decimal sum or
difference modulo 100 and the decimal carry or borrow. -/
def Obligations.DecimalAdjustIsDecimalArithmetic : Prop := ∀ (x y : Nat) (s : State), x < 100 → y < 100 → s.a = bcd x →
  (∃ t u, exec (.addAN8 (bcd y)) s = .next t ∧ exec .daa t = .next u ∧
    u.a = bcd ((x + y) % 100) ∧ (u.f.getLsbD 4 = true ↔ 100 ≤ x + y)) ∧
  (∃ t u, exec (.subAN8 (bcd y)) s = .next t ∧ exec .daa t = .next u ∧
    u.a = bcd ((x + 100 - y) % 100) ∧ (u.f.getLsbD 4 = true ↔ x < y))

/-- R210 to R212. -/
def Obligations.ComplementAndCarryFlag : Prop := ∀ s : State,
  Runs .cpl [0x2F] s (fun t => t.a = s.a ^^^ 0xFF ∧
    FlagsAre (s.f.getLsbD 7) true true (s.f.getLsbD 4) s t ∧ OnlyFlagsAnd [.a] [] s t) ∧
  Runs .scf [0x37] s (fun t => FlagsAre (s.f.getLsbD 7) false false true s t ∧ OnlyFlagsAnd [] [] s t) ∧
  Runs .ccf [0x3F] s (fun t => FlagsAre (s.f.getLsbD 7) false false (!s.f.getLsbD 4) s t ∧ OnlyFlagsAnd [] [] s t)

/-! ## 16-bit arithmetic -/

/-- R220, all 4 rows: H is the carry out of bit 11, C out of bit 15, Z is kept. -/
def Obligations.AddPairToHL : Prop := ∀ (p : R16) (s : State),
  Runs (Form.addHLR16 p) [0x09 + 16 * code16 p] s (fun t =>
    t.hl = s.hl + s.r16 p ∧
    FlagsAre (s.f.getLsbD 7) false (decide (s.hl.toNat % 4096 + (s.r16 p).toNat % 4096 > 4095))
      (decide (s.hl.toNat + (s.r16 p).toNat > 65535)) s t ∧
    OnlyFlagsAnd [.h, .l] [] s t)

/-- R221, R222, 4 rows each: no flag records the wrap. -/
def Obligations.IncrementDecrementPair : Prop := ∀ (p : R16) (s : State),
  Runs (Form.incR16 p) [0x03 + 16 * code16 p] s (PairIs p (s.r16 p + 1) s) ∧
  Runs (Form.decR16 p) [0x0B + 16 * code16 p] s (PairIs p (s.r16 p - 1) s)

/-! ## Rotates, shifts and bit operations -/

/-- R241 to R244. -/
def Obligations.RotateAccumulator : Prop := ∀ s : State,
  Runs .rlca [0x07] s (RotatesA .rlc s) ∧ Runs .rrca [0x0F] s (RotatesA .rrc s) ∧
  Runs .rla [0x17] s (RotatesA .rl s) ∧ Runs .rra [0x1F] s (RotatesA .rr s)

/-- The register forms of R245 to R259, 7 rows each. -/
def Obligations.ShiftRegister : Prop := ∀ (r : Reg8) (s : State),
  Runs (Form.rlcR8 r) [0xCB, 0x00 + code8 r] s (ShiftsReg .rlc r s) ∧
  Runs (Form.rrcR8 r) [0xCB, 0x08 + code8 r] s (ShiftsReg .rrc r s) ∧
  Runs (Form.rlR8 r) [0xCB, 0x10 + code8 r] s (ShiftsReg .rl r s) ∧
  Runs (Form.rrR8 r) [0xCB, 0x18 + code8 r] s (ShiftsReg .rr r s) ∧
  Runs (Form.slaR8 r) [0xCB, 0x20 + code8 r] s (ShiftsReg .sla r s) ∧
  Runs (Form.sraR8 r) [0xCB, 0x28 + code8 r] s (ShiftsReg .sra r s) ∧
  Runs (Form.swapR8 r) [0xCB, 0x30 + code8 r] s (ShiftsReg .swap r s) ∧
  Runs (Form.srlR8 r) [0xCB, 0x38 + code8 r] s (ShiftsReg .srl r s)

/-- The `[HL]` forms of R246 to R260. -/
def Obligations.ShiftMemory : Prop := ∀ s : State,
  Runs .rlcAtHL [0xCB, 0x06] s (ShiftsMem .rlc s) ∧ Runs .rrcAtHL [0xCB, 0x0E] s (ShiftsMem .rrc s) ∧
  Runs .rlAtHL [0xCB, 0x16] s (ShiftsMem .rl s) ∧ Runs .rrAtHL [0xCB, 0x1E] s (ShiftsMem .rr s) ∧
  Runs .slaAtHL [0xCB, 0x26] s (ShiftsMem .sla s) ∧ Runs .sraAtHL [0xCB, 0x2E] s (ShiftsMem .sra s) ∧
  Runs .swapAtHL [0xCB, 0x36] s (ShiftsMem .swap s) ∧ Runs .srlAtHL [0xCB, 0x3E] s (ShiftsMem .srl s)

/-- R261 (56 rows), R262 (8 rows): Z is the complement of the bit, C is kept, nothing is stored. -/
def Obligations.TestBit : Prop := ∀ (u : Bit3) (r : Reg8) (s : State),
  Runs (Form.bitU3R8 u r) [0xCB, 0x40 + 8 * codeBit u + code8 r] s (fun t =>
    FlagsAre (!(s.reg r).getLsbD (codeBit u).toNat) false true (s.f.getLsbD 4) s t ∧ OnlyFlagsAnd [] [] s t) ∧
  Runs (Form.bitU3AtHL u) [0xCB, 0x46 + 8 * codeBit u] s (fun t =>
    FlagsAre (!(s.readByte s.hl).getLsbD (codeBit u).toNat) false true (s.f.getLsbD 4) s t ∧
    OnlyFlagsAnd [] [s.hl] s t)

/-- R263, R265, 56 rows each: the one bit takes its value, every other bit of the register stays. -/
def Obligations.ClearAndSetBitOfRegister : Prop := ∀ (u : Bit3) (r : Reg8) (s : State),
  Runs (Form.resU3R8 u r) [0xCB, 0x80 + 8 * codeBit u + code8 r] s (fun t =>
    (∀ k, (t.reg r).getLsbD k = ((s.reg r).getLsbD k && k != (codeBit u).toNat)) ∧ Only [r] [] s t) ∧
  Runs (Form.setU3R8 u r) [0xCB, 0xC0 + 8 * codeBit u + code8 r] s (fun t =>
    (∀ k, (t.reg r).getLsbD k = ((s.reg r).getLsbD k || k == (codeBit u).toNat)) ∧ Only [r] [] s t)

/-- R264, R266, 8 rows each: one read and one write of the byte at HL. -/
def Obligations.ClearAndSetBitOfMemory : Prop := ∀ (u : Bit3) (s : State),
  Runs (Form.resU3AtHL u) [0xCB, 0x86 + 8 * codeBit u] s (fun t => ∃ v : Byte,
    (∀ k, v.getLsbD k = ((s.readByte s.hl).getLsbD k && k != (codeBit u).toNat)) ∧ Rewrites v s t ∧ t.f = s.f) ∧
  Runs (Form.setU3AtHL u) [0xCB, 0xC6 + 8 * codeBit u] s (fun t => ∃ v : Byte,
    (∀ k, v.getLsbD k = ((s.readByte s.hl).getLsbD k || k == (codeBit u).toNat)) ∧ Rewrites v s t ∧ t.f = s.f)

/-! ## Control transfer -/

/-- R270, R271 (4 rows), R272. -/
def Obligations.JumpAbsolute : Prop := ∀ (cc : Cond) (n : Word) (s : State),
  Runs (.jpN16 n) [0xC3, lo n, hi n] s (Jumps n s) ∧
  Runs (Form.jpCcN16 cc n) [0xC2 + 8 * codeCond cc, lo n, hi n] s (IfHolds cc (Jumps n) s) ∧
  Runs .jpHL [0xE9] s (Jumps s.hl s)

/-- R273, R274 (4 rows): relative to the address of the next instruction, with wrapping. -/
def Obligations.JumpRelative : Prop := ∀ (cc : Cond) (k : Byte) (s : State),
  Runs (.jrE8 (k.signExtend 16)) [0x18, k] s (Jumps (s.pc + k.signExtend 16) s) ∧
  Runs (Form.jrCcE8 cc (k.signExtend 16)) [0x20 + 8 * codeCond cc, k] s
    (IfHolds cc (Jumps (s.pc + k.signExtend 16)) s)

/-- R275, R276 (4 rows): the address of the next instruction is pushed. -/
def Obligations.CallSubroutine : Prop := ∀ (cc : Cond) (n : Word) (s : State),
  Runs (.callN16 n) [0xCD, lo n, hi n] s (Calls n s) ∧
  Runs (Form.callCcN16 cc n) [0xC4 + 8 * codeCond cc, lo n, hi n] s (IfHolds cc (Calls n) s)

/-- R277, R278 (4 rows). -/
def Obligations.ReturnFromSubroutine : Prop := ∀ (cc : Cond) (s : State),
  Runs .ret [0xC9] s (Returns s) ∧ Runs (Form.retCc cc) [0xC0 + 8 * codeCond cc] s (IfHolds cc Returns s)

/-- R279: PC popped and IME set at once; `ei_pending` is not changed. -/
def Obligations.ReturnFromInterrupt : Prop := ∀ s : State,
  Runs .reti [0xD9] s (fun t =>
    t.pc = concat (readSecond s.sp (s.sp + 1) s) (s.readByte s.sp) ∧ t.sp = s.sp + 2 ∧ t.ime = true ∧
    Regs [] s t ∧ t.f = s.f ∧ t.eiPending = s.eiPending ∧ t.haltBug = s.haltBug ∧ t.mode = s.mode ∧
    t.result = s.result ∧ t.env = s.env ∧ t.cfg = s.cfg ∧ NoStore [s.sp, s.sp + 1] s t)

/-- R280, all 8 rows. -/
def Obligations.Restart : Prop := ∀ (v : Rst) (s : State),
  Runs (Form.rstVec v) [0xC7 + 8 * codeRst v] s (Calls (8 * (codeRst v).setWidth 16) s)

/-! ## System instructions -/

/-- R300, R301, R304: exactly these fields change. -/
def Obligations.NopDisableEnable : Prop := ∀ s : State,
  Runs .nop [0x00] s (fun t => t = s) ∧
  Runs .di [0xF3] s (fun t => t = { s with ime := false, eiPending := false }) ∧
  Runs .ei [0xFB] s (fun t => t = { s with eiPending := true })

/-- R302: the HALT bug's condition decides between `halt_bug` and the halted mode. -/
def Obligations.HaltOrHaltBug : Prop := ∀ s : State,
  Runs .halt [0x76] s (fun t =>
    (s.ime = false ∧ s.peek 0xFFFF &&& s.peek 0xFF0F &&& 0x1F ≠ 0 ∧ s.cfg.haltBug = true →
      t = { s with haltBug := true }) ∧
    (¬ (s.ime = false ∧ s.peek 0xFFFF &&& s.peek 0xFF0F &&& 0x1F ≠ 0 ∧ s.cfg.haltBug = true) →
      t = { s with mode := .halted }))

/-- R303: any operand byte. -/
def Obligations.StopIgnoresItsByte : Prop := ∀ (n : Byte) (s : State),
  Runs (.stop n) [0x10, n] s (fun t => t = { s with mode := .stopped })

/-- R107: once an instruction is decoded, it completes, in every state; so no step is refused. -/
def Obligations.EveryInstructionCompletes : Prop :=
  (∀ (i : Instr) (s : State), ∃ t, exec i s = .next t) ∧ ∀ (s : State) (r : Refusal), step s ≠ .refused r

/-! ## Registers and reset -/

/-- R21: a pair is its two halves, the first-named high; writing it writes both. -/
def Obligations.PairsAreTheirHalves : Prop := ∀ (s : State) (v : Word),
  s.af.toNat = 256 * s.a.toNat + s.f.toNat ∧ s.bc.toNat = 256 * s.b.toNat + s.c.toNat ∧
  s.de.toNat = 256 * s.d.toNat + s.e.toNat ∧ s.hl.toNat = 256 * s.h.toNat + s.l.toNat ∧
  (s.setBC v).bc = v ∧ (s.setDE v).de = v ∧ (s.setHL v).hl = v

/-- R360, R361, R347: what LoadRom leaves, for every RESET_REGS, every model and every image; the rows of the default
table; an image that ROM_VALID turns away disturbs nothing and its reason is reported. The reset state of the model is
that of DMG with an image that lists nothing, which is the model's choice (log entries 1 and 3). -/
def Obligations.ResetLeavesTheHandOverState : Prop :=
  (∀ (p : Launch) (cfg : Config) (mem0 : BusState) (env : List EnvAction),
    let t := State.loadRom p cfg mem0 env
    let r := p.resetRegs cfg.model (mem0.mem.read 0x014D)
    [t.a, t.f, t.b, t.c, t.d, t.e, t.h, t.l] = [r.a, r.f, r.b, r.c, r.d, r.e, r.h, r.l] ∧
    t.sp = 0xFFFE ∧ t.pc = 0x0100 ∧ t.ime = false ∧ t.eiPending = false ∧ t.haltBug = false ∧ t.mode = .running ∧
    t.m = mem0) ∧
  (∀ checksum : Byte,
    let f : Byte := if checksum = 0 then 0x80 else 0xB0
    let reg (model : ConsoleModel) := Launch.default.resetRegs model checksum
    reg .dmg = ⟨0x01, f, 0x00, 0x13, 0x00, 0xD8, 0x01, 0x4D⟩ ∧
    reg .mgb = ⟨0xFF, f, 0x00, 0x13, 0x00, 0xD8, 0x01, 0x4D⟩ ∧
    reg .sgb = ⟨0x01, 0x00, 0x00, 0x14, 0x00, 0x00, 0xC0, 0x60⟩ ∧
    reg .sgb2 = ⟨0xFF, 0x00, 0x00, 0x14, 0x00, 0x00, 0xC0, 0x60⟩ ∧
    reg .cgb = ⟨0x11, 0x80, 0x00, 0x00, 0xFF, 0x56, 0x00, 0x0D⟩ ∧ Launch.default.wf) ∧
  (∀ (h : Wrapper) (p : Launch) (bytes : List Byte) (model : ConsoleModel) (mem0 : BusState),
    (∀ why, p.romFailure bytes model = some why → h.loadRom p bytes model mem0 = (h, .loadFailed why)) ∧
    (p.romFailure bytes model = none →
      (h.loadRom p bytes model mem0).1.execMode = .paused ∧ (h.loadRom p bytes model mem0).2 = .loaded ∧
      ∃ cfg env, cfg.model = model ∧ (h.loadRom p bytes model mem0).1.core = State.loadRom p cfg mem0 env)) ∧
  State.reset = State.loadRom Launch.default Config.default ⟨[], []⟩ []

/-! ## The step -/

/-- R327 with R324 and R325: a step that takes an interrupt takes the pending one with the lowest bit; it clears IME and
`ei_pending`, pushes PC, clears that bit of IF (as IF stands after the pushes), and goes to the vector. Nothing else
changes. Behind every Bus it makes exactly three writes; behind the flat Bus, these are the bytes they leave. -/
def Obligations.InterruptEntryEffect : Prop := ∀ (s : State) (k : Irq),
  let s₀ := atStart s
  let pending := s₀.peek 0xFFFF &&& s₀.peek 0xFF0F &&& 0x1F
  s₀.mode = .running → s₀.cfg.irqDispatch = true → s₀.ime = true →
  pending.getLsbD k.bit = true → (∀ j, j < k.bit → pending.getLsbD j = false) →
  let m₁ := (bus s₀).write s₀.m (s₀.sp - 1) (hi s₀.pc)
  let m₂ := (bus s₀).write m₁ (s₀.sp - 2) (lo s₀.pc)
  let flags := (bus s₀).peek m₂ 0xFF0F
  let cleared : Byte := flags &&& ~~~((1 : Byte) <<< k.bit)
  ∃ t, step s = .next t ∧ t.ime = false ∧ t.eiPending = false ∧ t.sp = s₀.sp - 2 ∧
    t.pc = BitVec.ofNat 16 (0x40 + 8 * k.bit) ∧ t.result = some (.dispatched k) ∧
    t.m = (bus s₀).write m₂ 0xFF0F cleared ∧
    t.writes = [⟨s₀.sp - 1, s₀.peek (s₀.sp - 1), hi s₀.pc⟩, ⟨s₀.sp - 2, (bus s₀).peek m₁ (s₀.sp - 2), lo s₀.pc⟩,
      ⟨0xFF0F, flags, cleared⟩] ∧
    (Flat s₀ →
      flags = (if (0xFF0F : Word) = s₀.sp - 2 then lo s₀.pc else if (0xFF0F : Word) = s₀.sp - 1 then hi s₀.pc
        else s₀.peek 0xFF0F) ∧
      (bus s₀).peek m₁ (s₀.sp - 2) = s₀.peek (s₀.sp - 2) ∧
      t.peek 0xFF0F = cleared ∧
      ∀ x, x ≠ 0xFF0F → t.peek x =
        if x = s₀.sp - 2 then lo s₀.pc else if x = s₀.sp - 1 then hi s₀.pc else s₀.peek x) ∧
    Regs [] s₀ t ∧ t.f = s₀.f ∧ t.mode = .running ∧ t.haltBug = s₀.haltBug ∧ t.env = s₀.env ∧ t.cfg = s₀.cfg

/-- R333 with R102 (S1): a Stopped core that the environment does not wake returns Idle, and everything stays. -/
def Obligations.StoppedCoreIdles : Prop := ∀ s : State,
  (atStart s).mode = .stopped → step s = .next { atStart s with result := some .idle }

/-- R332 with R102 (S2): a Halted core idles until an interrupt is pending, then wakes, whatever IME is; no register,
IME or memory byte changes, and nothing is read. -/
def Obligations.HaltedCoreIdlesOrWakes : Prop := ∀ s : State,
  let s₀ := atStart s
  let pending := s₀.peek 0xFFFF &&& s₀.peek 0xFF0F &&& 0x1F
  s₀.mode = .halted →
    (pending = 0 → step s = .next { s₀ with result := some .idle }) ∧
    (pending ≠ 0 → step s = .next { s₀ with mode := .running, result := some .woken })

/-- R100 and R104, with R29 and R35: a running core that takes no interrupt, and for which the bytes of a well-formed
instruction stand where it fetches, reads exactly these bytes, each once, and runs that instruction, with PC past its
bytes (one byte less under `halt_bug`), `halt_bug` cleared, and the delayed IME of `EI` in force. Behind the flat Bus:
the instruction that the three bytes there decode to. -/
def Obligations.StepRunsTheDecodedInstruction : Prop := ∀ (s : State) (i : Instr),
  let s₀ := atStart s
  let p := if s₀.haltBug then s₀.pc else s₀.pc + 1
  let enter (n : Nat) (t : State) : State := { t with
    pc := p + BitVec.ofNat 16 (n - 1), haltBug := false, ime := s₀.ime || s₀.eiPending, eiPending := false,
    result := some .executed }
  s₀.mode = .running → NoIrq s₀ →
    (∀ t, i.wf = true → FetchesTo (encode i) s₀ t → step s = exec i (enter i.length t)) ∧
    (∀ n, Flat s₀ → decodeWindow (s₀.peek s₀.pc) (s₀.peek p) (s₀.peek (p + 1)) = .ok (i, n) →
      step s = exec i (enter n s₀))

/-- R320 with R99: a step faults exactly when a running core that takes no interrupt reads one of the eleven unclaimed
bytes at PC, and the fault names the primary space and that byte. No prefixed sequence faults (R267). -/
def Obligations.FaultsExactlyOnUnclaimedBytes : Prop := ∀ (s : State) (flt : Fault),
  step s = .fault flt ↔
    (atStart s).mode = .running ∧ NoIrq (atStart s) ∧ (atStart s).readByte (atStart s).pc ∈ unclaimed ∧
      flt = .unimplementedOpcode .primary ((atStart s).readByte (atStart s).pc)

/-- R331: the environment's action sets its IF bits by one write, where there are some to set, and wakes a Stopped core
where it says so; nothing else changes, and no event is emitted. That the actions stand in a list, one of which a step
takes (`t.env = rest`), and that nothing happens once it is empty, is the model's choice (log entry 5, DESIGN CHOICE). -/
def Obligations.EnvironmentOnlyRequestsAndWakes : Prop := ∀ (s : State) (act : EnvAction) (rest : List EnvAction),
  let t := ({ s with env := act :: rest }).applyEnv
  ({ s with env := [] }).applyEnv = { s with env := [] } ∧
  t.env = rest ∧
  t.m = (if act.irq = 0 then s.m else (bus s).write s.m 0xFF0F (s.peek 0xFF0F ||| act.irq.setWidth 8)) ∧
  (Flat s → t.peek 0xFF0F = s.peek 0xFF0F ||| act.irq.setWidth 8 ∧ ∀ x, x ≠ 0xFF0F → t.peek x = s.peek x) ∧
  t.mode = (if act.wake = true ∧ s.mode = .stopped then .running else s.mode) ∧
  Regs [] s t ∧ t.f = s.f ∧ t.sp = s.sp ∧ t.pc = s.pc ∧ t.ime = s.ime ∧ t.eiPending = s.eiPending ∧
  t.haltBug = s.haltBug ∧ t.writes = s.writes ∧ t.result = s.result ∧ t.cfg = s.cfg

/-! ## Whole-machine rules -/

/-- From 10_state.md R32 and R33: over a step, IME rises only by `RETI` or by the delay of `EI`; and a step that
executes an instruction ends with `ei_pending` set only where the instruction is `EI`. -/
def Obligations.WhatRaisesImeAndEiPending : Prop := ∀ s t : State, step s = .next t →
  (s.ime = false → t.ime = true → s.eiPending = true ∨ ∃ n, (atStart s).decodeNext = .ok (.reti, n)) ∧
  (t.result = some .executed → t.eiPending = true → ∃ n, (atStart s).decodeNext = .ok (.ei, n))

/-- From 10_state.md R34: a running core leaves Running only by `HALT` or `STOP`. -/
def Obligations.OnlyHaltAndStopLeaveRunning : Prop := ∀ s t : State, step s = .next t → (atStart s).mode = .running →
  t.mode ≠ .running →
  ∃ n, (atStart s).decodeNext = .ok (.halt, n) ∨ ∃ b, (atStart s).decodeNext = .ok (.stop b, n)

/-- R57 and R106: the events of a step account for every change of memory in it. Played over memory as the step found
it, they give memory after it, byte for byte, and each event's old byte is what memory held just before; this behind the
flat Bus. Behind every Bus there are three at most. -/
def Obligations.EventsAccountForMemory : Prop := ∀ s t : State, step s = .next t →
  t.writes.length ≤ 3 ∧
  (Flat s → (∀ x, t.peek x = replay t.writes (fun y => s.applyEnv.peek y) x) ∧
    OldsAgree t.writes (fun y => s.applyEnv.peek y))

/-- R106, R346, 90_conflicts.md C8, whatever REG_EVENTS chooses: a step's MemoryWrite events are all output, in order; no
HBlank and no VBlank is; a step that idles or wakes, or executes `NOP`, `DI`, `EI`, `HALT` or `STOP`, outputs no
RegisterWrite; and one that names PC comes only from an interrupt or from a transfer of control that is taken, never from
PC's advance past an instruction; and an instruction leaves every register alone that it is not listed as writing. What
counts as a register write is the model's choice (log entry 7). -/
def Obligations.EventsComeFromExecution : Prop := ∀ s t : State, step s = .next t →
  let events := stepEvents s t
  let ran (i : Instr) : Prop := t.result = some .executed ∧ ∃ n, (atStart s).decodeNext = .ok (i, n)
  events.filterMap memoryWrite? = t.writes ∧ .hBlank ∉ events ∧ .vBlank ∉ events ∧
  (t.result = some .idle ∨ t.result = some .woken → events = []) ∧
  (∀ i, ran i → (i = .nop ∨ i = .di ∨ i = .ei ∨ i = .halt ∨ ∃ n, i = .stop n) → events = []) ∧
  (∀ w ∈ events.filterMap registerWrite?, w.register = .pc →
    w.value = t.pc ∧ ((∃ k, t.result = some (.dispatched k)) ∨
      ∃ i, ran i ∧ .pc ∈ registersWritten i ∧ ∀ cc, conditionOf i = some cc → holds cc (atStart s))) ∧
  (∀ (i : Instr) (u v : State) (r : RegName), exec i u = .next v → (∀ q ∈ r.cells, q ∉ registersWritten i) →
    v.named r = u.named r)

/-- From 00_scope.md R8 and R331: no step changes the launch parameters, and each step uses up one action of the
environment; that the parameters and the actions are fields of State is the model's choice (log entries 4 and 5). -/
def Obligations.ParametersNeverChange : Prop := ∀ s t : State, step s = .next t →
  t.cfg = s.cfg ∧ t.env = s.env.tail ∧ t.result ≠ none

/-- The invariant holds after LoadRom of any image in canonical form, whatever RESET_REGS is within R361's limit, and in
the model's reset state. -/
def Obligations.ResetMeetsInvariant : Prop :=
  State.reset.Inv ∧ ∀ (p : Launch) (cfg : Config) (mem0 : BusState) (env : List EnvAction),
    p.wf → mem0.mem.wf → (State.loadRom p cfg mem0 env).Inv

/-- R25, R328, R104: every step keeps the invariant, behind every Bus and from every state that meets it: F's low bits
are 0, memory is canonical, `ei_pending` only while running, and `halt_bug` only while running with IME = 0 and, behind the
flat Bus, an interrupt pending. -/
def Obligations.StepKeepsInvariant : Prop := ∀ s t : State, s.Inv → step s = .next t → t.Inv

/-- R328: no interrupt is taken while `halt_bug` is set, in any reachable state. -/
def Obligations.NoInterruptUnderHaltBug : Prop := ∀ s t : State, s.Reachable → s.haltBug = true → step s = .next t →
  t.result = some .executed

/-! ## Encoding -/

/-- R93: decoding the bytes of a well-formed instruction gives it back and leaves what follows, for every row and every
operand value. -/
def Obligations.DecodeOfEncode : Prop := ∀ (i : Instr) (rest : List Byte),
  i.wf = true → decode (encode i ++ rest) = .ok (i, rest)

/-- R93: serializing what was decoded gives back exactly the consumed bytes, for every byte sequence; and decoding that
serialization gives the instruction again. -/
def Obligations.EncodeOfDecode : Prop := ∀ (bs rest : List Byte) (i : Instr),
  decode bs = .ok (i, rest) → encode i ++ rest = bs ∧ i.wf = true ∧ decode (encode i) = .ok (i, [])

/-- R94, R96, R99, R267: in each space every byte is claimed by one definition at most; in the primary space exactly the
eleven unclaimed bytes and the prefix by none; in the extended space every byte by one. And with R85, R88: every
definition is well formed, and the fixed bits with the bits its field values contribute back give the byte again. -/
def Obligations.CatalogPartitionsTheOpcodes : Prop :=
  (∀ b : Byte,
    (catalog.filter (fun d => d.space == .primary && d.claims b)).length =
      (if b = 0xCB ∨ b ∈ unclaimed then 0 else 1) ∧
    (catalog.filter (fun d => d.space == .extended && d.claims b)).length = 1) ∧
  catalog.length = 103 ∧
  ∀ d ∈ catalog, d.wf = true ∧ ∀ b : Byte, d.claims b = true → d.opcode (d.fields b) = b

/-- Words written out from the templates of R98, one for each family. -/
def Obligations.SampleWordsDecode : Prop :=
  decode [0b01_001_000] = .ok (.ldCB, []) ∧
  decode [0b00_11_0001, 0xFE, 0xFF] = .ok (.ldSPN16 0xFFFE, []) ∧
  decode [0b11_110_110, 0x80] = .ok (.orAN8 0x80, []) ∧
  decode [0b00_10_1001] = .ok (.addHLHL, []) ∧
  decode [0xCB, 0b00_111_110] = .ok (.srlAtHL, []) ∧
  decode [0xCB, 0b01_111_100] = .ok (.bit7H, []) ∧
  decode [0b001_10_000, 0x80] = .ok (.jrNCE8 0xFF80, []) ∧
  decode [0b11_101_111] = .ok (.rst28, []) ∧
  decode [0b11110011] = .ok (.di, []) ∧
  decode [0xD3] = .error (.unimplementedOpcode ⟨.primary, 0xD3⟩)
end

