-- ==== Sys2Proof/Laws/Words.lean ====
section
/-! SUPPORT. The halves of a word, the flags of a written F, and the 16-bit values of a stack move. -/

namespace Sys2Proof

@[simp] theorem hi_concat (h l : Byte) : hi (concat h l) = h := by
  apply BitVec.eq_of_toNat_eq
  have := h.isLt; have := l.isLt
  simp only [hi, concat, BitVec.extractLsb'_toNat, BitVec.toNat_append, Nat.shiftRight_eq_div_pow]
  rw [← Nat.shiftLeft_add_eq_or_of_lt (by omega)]
  simp only [Nat.shiftLeft_eq]; omega

@[simp] theorem lo_concat (h l : Byte) : lo (concat h l) = l := by
  apply BitVec.eq_of_toNat_eq
  have := h.isLt; have := l.isLt
  simp only [lo, concat, BitVec.extractLsb'_toNat, BitVec.toNat_append, Nat.shiftRight_eq_div_pow]
  rw [← Nat.shiftLeft_add_eq_or_of_lt (by omega)]
  simp only [Nat.shiftLeft_eq]; omega

theorem toNat_concat (h l : Byte) : (concat h l).toNat = 256 * h.toNat + l.toNat := by
  have := l.isLt
  simp only [concat, BitVec.toNat_append]
  rw [← Nat.shiftLeft_add_eq_or_of_lt (by omega)]
  simp only [Nat.shiftLeft_eq]; omega

theorem toNat_hi (v : Word) : (hi v).toNat = v.toNat / 256 := by
  have := v.isLt
  simp only [hi, BitVec.extractLsb'_toNat, Nat.shiftRight_eq_div_pow]; omega

theorem toNat_lo (v : Word) : (lo v).toNat = v.toNat % 256 := by
  simp [lo, BitVec.extractLsb'_toNat]

@[simp] theorem concat_hi_lo (v : Word) : concat (hi v) (lo v) = v := by
  apply BitVec.eq_of_toNat_eq
  rw [toNat_concat, toNat_hi, toNat_lo]; omega

/-- The raw byte of a sign-extended operand (30_encoding.md R92). -/
@[simp] theorem lo_sext16 (k : Byte) : lo (sext16 k) = k := by
  revert k; decide

@[simp] theorem lo_signExtend (k : Byte) : lo (k.signExtend 16) = k := lo_sext16 k

/-- What decode gives an `e8` operand is well-formed (30_encoding.md R91). -/
@[simp] theorem isE8_sext16 (k : Byte) : isE8 (sext16 k) = true := by
  revert k; decide

/-- A well-formed `e8` is the sign extension of its low byte. -/
theorem sext16_lo (e : Word) (h : isE8 e = true) : sext16 (lo e) = e := by
  have hl : lo e = e.setWidth 8 := by
    apply BitVec.eq_of_toNat_eq; rw [toNat_lo]; simp
  simpa [isE8, sext16, hl] using h

namespace Machine

@[simp] theorem State.hl_setHL (s : State) (v : Word) : (s.setHL v).hl = v := concat_hi_lo v
@[simp] theorem State.bc_setBC (s : State) (v : Word) : (s.setBC v).bc = v := concat_hi_lo v
@[simp] theorem State.de_setDE (s : State) (v : Word) : (s.setDE v).de = v := concat_hi_lo v

/-! ## The fields of a written F (10_state.md R24, R25) -/

/-- Every bit of F after a flag write. -/
theorem Flags.getLsbD_write (f : Byte) (z n h c : Bool) (k : Nat) :
    (Flags.write f z n h c).getLsbD k =
      (f.getLsbD k && (0x0F : Byte).getLsbD k || (z && decide (k = 7) || (n && decide (k = 6)) ||
        (h && decide (k = 5)) || (c && decide (k = 4)))) := by
  by_cases hk : k < 8
  · have hb : ∀ k < 8, ∀ z n h c : Bool,
        (Flags.bit z 7 ||| Flags.bit n 6 ||| Flags.bit h 5 ||| Flags.bit c 4).getLsbD k =
          (z && decide (k = 7) || (n && decide (k = 6)) || (h && decide (k = 5)) || (c && decide (k = 4))) := by decide
    rw [Flags.write, BitVec.getLsbD_or, BitVec.getLsbD_and, hb k hk]
  · have h1 : k ≠ 7 ∧ k ≠ 6 ∧ k ≠ 5 ∧ k ≠ 4 := by omega
    simp [BitVec.getLsbD_of_ge _ _ (by omega : 8 ≤ k), h1]

@[simp] theorem Flags.z_write (f : Byte) (z n h c : Bool) : Flags.z (Flags.write f z n h c) = z := by
  rw [Flags.z, Flags.getLsbD_write]; simp
@[simp] theorem Flags.n_write (f : Byte) (z n h c : Bool) : Flags.n (Flags.write f z n h c) = n := by
  rw [Flags.n, Flags.getLsbD_write]; simp
@[simp] theorem Flags.h_write (f : Byte) (z n h c : Bool) : Flags.h (Flags.write f z n h c) = h := by
  rw [Flags.h, Flags.getLsbD_write]; simp
@[simp] theorem Flags.c_write (f : Byte) (z n h c : Bool) : Flags.c (Flags.write f z n h c) = c := by
  rw [Flags.c, Flags.getLsbD_write]; simp

/-! The same by bit, the form `simp` gives `getLsbD` of a literal index. -/

@[simp] theorem Flags.getElem7_write (f : Byte) (z n h c : Bool) : (Flags.write f z n h c)[7] = z :=
  Flags.z_write f z n h c
@[simp] theorem Flags.getElem6_write (f : Byte) (z n h c : Bool) : (Flags.write f z n h c)[6] = n :=
  Flags.n_write f z n h c
@[simp] theorem Flags.getElem5_write (f : Byte) (z n h c : Bool) : (Flags.write f z n h c)[5] = h :=
  Flags.h_write f z n h c
@[simp] theorem Flags.getElem4_write (f : Byte) (z n h c : Bool) : (Flags.write f z n h c)[4] = c :=
  Flags.c_write f z n h c

/-- A flag write leaves bits 3..0 of F as they were. -/
@[simp] theorem Flags.low_write (f : Byte) (z n h c : Bool) : Flags.write f z n h c &&& 0x0F = f &&& 0x0F := by
  have hb : ∀ z n h c : Bool,
      (Flags.bit z 7 ||| Flags.bit n 6 ||| Flags.bit h 5 ||| Flags.bit c 4) &&& 0x0F = 0 := by decide
  ext k hk
  have := congrArg (fun x => x.getLsbD k) (hb z n h c)
  simp only [BitVec.getLsbD_and] at this
  simp only [Flags.write, ← BitVec.getLsbD_eq_getElem, BitVec.getLsbD_and, BitVec.getLsbD_or, Bool.and_or_distrib_right] at this ⊢
  rw [this]; simp

/-- `POP AF` leaves bits 3..0 of F zero (42_load16_stack.md R167). -/
@[simp] theorem and_F0_low (v : Byte) : v &&& 0xF0 &&& 0x0F = 0 := by
  rw [BitVec.and_assoc]; simp

end Machine

end Sys2Proof
end

