-- ==== Sys2Proof/Laws/Alu.lean ====
section
/-! SUPPORT. What each computation of Flags.lean answers, on numbers or bit by bit, said once. -/

namespace Sys2Proof.Machine

/-! ## Sums and differences (43_alu8.md R180) -/

theorem toNat_add8_res (a b : Byte) (ci : Bool) : (add8 a b ci).res.toNat = (a.toNat + b.toNat + ci.toNat) % 256 := by
  simp [add8]

theorem toNat_trunc8 (r : Int) : (trunc8 r).toNat = (r % 256).toNat := by
  simp [trunc8, BitVec.toNat_ofInt]

theorem toNat_sub8_res (a b : Byte) (ci : Bool) :
    (sub8 a b ci).res.toNat = (a.toNat + 256 - b.toNat - ci.toNat) % 256 := by
  have := b.isLt
  have : ci.toNat < 2 := by cases ci <;> decide
  simp only [sub8, toNat_trunc8]
  omega

theorem sub8_h (a b : Byte) (ci : Bool) : (sub8 a b ci).h = decide (a.toNat % 16 < b.toNat % 16 + ci.toNat) := by
  simp only [sub8, decide_eq_decide]; omega

theorem sub8_c (a b : Byte) (ci : Bool) : (sub8 a b ci).c = decide (a.toNat < b.toNat + ci.toNat) := by
  simp only [sub8, decide_eq_decide]; omega

/-- Without a borrow in, the difference is the wrapping one. -/
theorem sub8_res (a b : Byte) : (sub8 a b false).res = a - b := by
  apply BitVec.eq_of_toNat_eq
  rw [toNat_sub8_res, BitVec.toNat_sub]
  have := b.isLt
  simp only [Bool.toNat_false]
  omega

/-! ## INC and DEC (R205 to R208) -/

theorem inc8_flags (v : Byte) (c : Bool) :
    (inc8 v c).z = (v == 0xFF) ∧ (inc8 v c).h = decide (v.toNat % 16 = 15) := by
  revert v; simp only [inc8]; decide

theorem dec8_flags (v : Byte) (c : Bool) :
    (dec8 v c).z = (v == 0x01) ∧ (dec8 v c).h = decide (v.toNat % 16 = 0) := by
  revert v; simp only [dec8]; decide

/-! ## DAA (R209) -/

/-- The high correction, where it applies. -/
def daaHigh (a : Byte) (n c : Bool) : Bool := c || (!n && decide (a.toNat > 0x99))

/-- The low correction, where it applies; it does not depend on the high one. -/
def daaLow (a : Byte) (n h : Bool) : Bool := h || (!n && decide (a.toNat % 16 > 9))

/-- The corrections are one wrapping sum or difference. -/
theorem daa_eq (a : Byte) (n h c : Bool) :
    daa a n h c =
      let fix : Byte := (if daaHigh a n c then 0x60 else 0) + (if daaLow a n h then 0x06 else 0)
      let r := if n then a - fix else a + fix
      ⟨r, r == 0, n, false, daaHigh a n c⟩ := by
  revert a n h c; decide +kernel

/-! ## The shift function on numbers (45_rotate_shift_bit.md R240) -/

/-- The whole table at once. -/
theorem sh_table : ∀ (x : Byte) (c : Bool),
    (sh .rlc x c).1.toNat = 2 * x.toNat % 256 + x.toNat / 128 ∧
    (sh .rrc x c).1.toNat = x.toNat / 2 + 128 * (x.toNat % 2) ∧
    (sh .rl x c).1.toNat = 2 * x.toNat % 256 + c.toNat ∧
    (sh .rr x c).1.toNat = x.toNat / 2 + 128 * c.toNat ∧
    (sh .sla x c).1.toNat = 2 * x.toNat % 256 ∧
    (sh .sra x c).1.toNat = x.toNat / 2 + 128 * (x.toNat / 128) ∧
    (sh .swap x c).1.toNat = 16 * (x.toNat % 16) + x.toNat / 16 ∧
    (sh .srl x c).1.toNat = x.toNat / 2 := by
  decide +kernel

/-! ## Single bits (R263, R265) -/

theorem getLsbD_one_shiftLeft (i k : Nat) (hi : i < 8) : ((1 : Byte) <<< i).getLsbD k = (k == i) := by
  rcases Nat.lt_or_ge k 8 with hk | hk
  · have : ∀ i < 8, ∀ k < 8, ((1 : Byte) <<< i).getLsbD k = (k == i) := by decide
    exact this i hi k hk
  · rw [BitVec.getLsbD_of_ge _ k hk]; symm; simp; omega

theorem Bit3.index_lt (u : Bit3) : u.index < 8 := by cases u <;> decide

theorem getLsbD_clearBit (u : Bit3) (v : Byte) (k : Nat) :
    (clearBit u v).getLsbD k = (v.getLsbD k && k != u.index) := by
  rcases Nat.lt_or_ge k 8 with hk | hk
  · rw [clearBit, BitVec.getLsbD_and, BitVec.getLsbD_not, getLsbD_one_shiftLeft _ _ (Bit3.index_lt u)]
    simp [hk, bne]
  · rw [BitVec.getLsbD_of_ge _ k hk, BitVec.getLsbD_of_ge _ k hk]; rfl

theorem getLsbD_setBit (u : Bit3) (v : Byte) (k : Nat) :
    (setBit u v).getLsbD k = (v.getLsbD k || k == u.index) := by
  rw [setBit, BitVec.getLsbD_or, getLsbD_one_shiftLeft _ _ (Bit3.index_lt u)]

end Sys2Proof.Machine
end

