-- ==== Sys2Proof/Laws/PerInstr.lean ====
section
/-! SUPPORT. One lemma for each instruction, about its encoding: the definition of the catalog that claims its opcode
byte builds this instruction, and no other, from the byte's fields and its operands, and reads operands of the kinds it
has; and its fields contribute the byte's bits back (30_encoding.md rules R87 to R90). -/

namespace Sys2Proof.Laws

/-- The kind of an operand. -/
def kindOf : Operand → AppendedKind
  | .n8 _ => .n8
  | .e8 _ => .e8
  | .n16 _ => .n16

/-- The handles of each space. -/
def pageOf : Space → List Handle
  | .primary => catalogA ++ catalogB ++ catalogC ++ catalogD
  | .extended => catalogE

/-- The place of the first definition of its space that claims the byte. -/
def slot (sp : Space) (op : Byte) : Nat := (pageOf sp).findIdx (fun h => h.definition.claims op)

/-- The pieces of the catalog hold one space each. -/
theorem catalog_spaces : (pageOf .primary).all (fun h => h.definition.space == .primary) = true ∧
    (pageOf .extended).all (fun h => h.definition.space == .extended) = true := by decide +kernel

theorem find_page (sp : Space) (op : Byte) : lookup sp op = (pageOf sp).find? (fun h => h.definition.claims op) := by
  have same : ∀ (l : List Handle) (x : Space), l.all (fun h => h.definition.space == x) = true →
      l.find? (fun h => h.definition.space == sp && h.definition.claims op) =
        if x = sp then l.find? (fun h => h.definition.claims op) else none := by
    intro l x hl
    induction l with
    | nil => simp
    | cons d l ih =>
      simp only [List.all_cons, Bool.and_eq_true, beq_iff_eq] at hl
      rw [List.find?_cons, List.find?_cons, ih hl.2, hl.1]
      by_cases hx : x = sp
      · simp [hx]
      · simp [show (x == sp) = false by simpa using hx, hx]
  rw [lookup, show handles = pageOf .primary ++ pageOf .extended from rfl, List.find?_append,
    same _ _ catalog_spaces.1, same _ _ catalog_spaces.2]
  cases sp <;> simp

/-- The place of each opcode byte's definition, byte 0x00 first; past the end where no definition claims the byte. -/
def slots : Space → List Nat
  | .primary => [
    0, 1, 2, 5, 6, 8, 10, 12, 13, 14, 15, 18, 6, 8, 10, 19, 20, 1, 2, 5, 6, 8, 10, 21, 22, 14, 15, 18, 6, 8, 10,
    23, 24, 1, 3, 5, 6, 8, 10, 25, 24, 14, 16, 18, 6, 8, 10, 26, 24, 1, 4, 5, 7, 9, 11, 27, 24, 14, 17, 18, 6,
    8, 10, 28, 29, 29, 29, 29, 29, 29, 30, 29, 29, 29, 29, 29, 29, 29, 30, 29, 29, 29, 29, 29, 29, 29, 30, 29,
    29, 29, 29, 29, 29, 29, 30, 29, 29, 29, 29, 29, 29, 29, 30, 29, 29, 29, 29, 29, 29, 29, 30, 29, 31, 31, 31,
    31, 31, 31, 32, 31, 29, 29, 29, 29, 29, 29, 30, 29, 33, 33, 33, 33, 33, 33, 34, 33, 36, 36, 36, 36, 36, 36,
    37, 36, 39, 39, 39, 39, 39, 39, 40, 39, 42, 42, 42, 42, 42, 42, 43, 42, 45, 45, 45, 45, 45, 45, 46, 45, 48,
    48, 48, 48, 48, 48, 49, 48, 51, 51, 51, 51, 51, 51, 52, 51, 54, 54, 54, 54, 54, 54, 55, 54, 57, 58, 60, 61,
    62, 63, 35, 65, 57, 66, 60, 81, 62, 68, 38, 65, 57, 58, 60, 81, 62, 63, 41, 65, 57, 67, 60, 81, 62, 81, 44,
    65, 69, 58, 70, 81, 81, 63, 47, 65, 71, 72, 73, 81, 81, 81, 50, 65, 74, 59, 75, 76, 81, 64, 53, 65, 77, 78,
    79, 80, 81, 81, 56, 65]
  | .extended => [
    0, 0, 0, 0, 0, 0, 1, 0, 2, 2, 2, 2, 2, 2, 3, 2, 4, 4, 4, 4, 4, 4, 5, 4, 6, 6, 6, 6, 6, 6, 7, 6, 8, 8, 8, 8,
    8, 8, 9, 8, 10, 10, 10, 10, 10, 10, 11, 10, 12, 12, 12, 12, 12, 12, 13, 12, 14, 14, 14, 14, 14, 14, 15, 14,
    16, 16, 16, 16, 16, 16, 17, 16, 16, 16, 16, 16, 16, 16, 17, 16, 16, 16, 16, 16, 16, 16, 17, 16, 16, 16, 16,
    16, 16, 16, 17, 16, 16, 16, 16, 16, 16, 16, 17, 16, 16, 16, 16, 16, 16, 16, 17, 16, 16, 16, 16, 16, 16, 16,
    17, 16, 16, 16, 16, 16, 16, 16, 17, 16, 18, 18, 18, 18, 18, 18, 19, 18, 18, 18, 18, 18, 18, 18, 19, 18, 18,
    18, 18, 18, 18, 18, 19, 18, 18, 18, 18, 18, 18, 18, 19, 18, 18, 18, 18, 18, 18, 18, 19, 18, 18, 18, 18, 18,
    18, 18, 19, 18, 18, 18, 18, 18, 18, 18, 19, 18, 18, 18, 18, 18, 18, 18, 19, 18, 20, 20, 20, 20, 20, 20, 21,
    20, 20, 20, 20, 20, 20, 20, 21, 20, 20, 20, 20, 20, 20, 20, 21, 20, 20, 20, 20, 20, 20, 20, 21, 20, 20, 20,
    20, 20, 20, 20, 21, 20, 20, 20, 20, 20, 20, 20, 21, 20, 20, 20, 20, 20, 20, 20, 21, 20, 20, 20, 20, 20, 20,
    20, 21, 20]

theorem slot_eq (sp : Space) : ∀ op : Byte, slot sp op = (slots sp).getD op.toNat 0 := by
  cases sp <;> decide +kernel

theorem lookup_of_slot {sp : Space} {op : Byte} {h : Handle}
    (hh : (pageOf sp)[(slots sp).getD op.toNat 0]? = some h) : lookup sp op = some h := by
  rw [← slot_eq] at hh
  rw [find_page, List.find?_eq_getElem?_findIdx]
  exact hh

/-- The table slot of the instruction's opcode byte builds the instruction, from operands of its kinds; and the fixed
bits with the bits the fields contribute are the opcode byte (R88, R92). -/
def Claimed.Statement (i : Instr) : Prop :=
  ∃ h, lookup i.encoding.space i.encoding.op = some h ∧
    h.build (h.definition.fields i.encoding.op) i.encoding.operands = some i ∧
    h.definition.appended = i.encoding.operands.map kindOf ∧
    h.definition.opcode (h.definition.fields i.encoding.op) = i.encoding.op

/-- The statement, from the slot. -/
theorem claimed {i : Instr} (sp : Space) (op : Byte) {os : List Operand} {h : Handle}
    (hh : (pageOf sp)[(slots sp).getD op.toNat 0]? = some h) (hx : i.encoding = ⟨sp, op, os⟩)
    (hb : h.build (h.definition.fields op) os = some i) (ha : h.definition.appended = os.map kindOf)
    (ho : h.definition.opcode (h.definition.fields op) = op) : Claimed.Statement i :=
  ⟨h, by rw [hx]; exact lookup_of_slot hh, by rw [hx]; exact hb, by rw [hx]; exact ha, by rw [hx]; exact ho⟩

theorem Claimed.nop : Claimed.Statement .nop :=
  claimed .primary 0x00 rfl rfl rfl rfl rfl
theorem Claimed.ldBCN16 (v : Word) : Claimed.Statement (.ldBCN16 v) :=
  claimed .primary 0x01 rfl rfl rfl rfl rfl
theorem Claimed.ldDEN16 (v : Word) : Claimed.Statement (.ldDEN16 v) :=
  claimed .primary 0x11 rfl rfl rfl rfl rfl
theorem Claimed.ldHLN16 (v : Word) : Claimed.Statement (.ldHLN16 v) :=
  claimed .primary 0x21 rfl rfl rfl rfl rfl
theorem Claimed.ldSPN16 (v : Word) : Claimed.Statement (.ldSPN16 v) :=
  claimed .primary 0x31 rfl rfl rfl rfl rfl
theorem Claimed.ldAtBCA : Claimed.Statement .ldAtBCA :=
  claimed .primary 0x02 rfl rfl rfl rfl rfl
theorem Claimed.ldAtDEA : Claimed.Statement .ldAtDEA :=
  claimed .primary 0x12 rfl rfl rfl rfl rfl
theorem Claimed.ldAtHLIncA : Claimed.Statement .ldAtHLIncA :=
  claimed .primary 0x22 rfl rfl rfl rfl rfl
theorem Claimed.ldAtHLDecA : Claimed.Statement .ldAtHLDecA :=
  claimed .primary 0x32 rfl rfl rfl rfl rfl
theorem Claimed.incBC : Claimed.Statement .incBC :=
  claimed .primary 0x03 rfl rfl rfl rfl rfl
theorem Claimed.incDE : Claimed.Statement .incDE :=
  claimed .primary 0x13 rfl rfl rfl rfl rfl
theorem Claimed.incHL : Claimed.Statement .incHL :=
  claimed .primary 0x23 rfl rfl rfl rfl rfl
theorem Claimed.incSP : Claimed.Statement .incSP :=
  claimed .primary 0x33 rfl rfl rfl rfl rfl
theorem Claimed.incB : Claimed.Statement .incB :=
  claimed .primary 0x04 rfl rfl rfl rfl rfl
theorem Claimed.incC : Claimed.Statement .incC :=
  claimed .primary 0x0C rfl rfl rfl rfl rfl
theorem Claimed.incD : Claimed.Statement .incD :=
  claimed .primary 0x14 rfl rfl rfl rfl rfl
theorem Claimed.incE : Claimed.Statement .incE :=
  claimed .primary 0x1C rfl rfl rfl rfl rfl
theorem Claimed.incH : Claimed.Statement .incH :=
  claimed .primary 0x24 rfl rfl rfl rfl rfl
theorem Claimed.incL : Claimed.Statement .incL :=
  claimed .primary 0x2C rfl rfl rfl rfl rfl
theorem Claimed.incA : Claimed.Statement .incA :=
  claimed .primary 0x3C rfl rfl rfl rfl rfl
theorem Claimed.incAtHL : Claimed.Statement .incAtHL :=
  claimed .primary 0x34 rfl rfl rfl rfl rfl
theorem Claimed.decB : Claimed.Statement .decB :=
  claimed .primary 0x05 rfl rfl rfl rfl rfl
theorem Claimed.decC : Claimed.Statement .decC :=
  claimed .primary 0x0D rfl rfl rfl rfl rfl
theorem Claimed.decD : Claimed.Statement .decD :=
  claimed .primary 0x15 rfl rfl rfl rfl rfl
theorem Claimed.decE : Claimed.Statement .decE :=
  claimed .primary 0x1D rfl rfl rfl rfl rfl
theorem Claimed.decH : Claimed.Statement .decH :=
  claimed .primary 0x25 rfl rfl rfl rfl rfl
theorem Claimed.decL : Claimed.Statement .decL :=
  claimed .primary 0x2D rfl rfl rfl rfl rfl
theorem Claimed.decA : Claimed.Statement .decA :=
  claimed .primary 0x3D rfl rfl rfl rfl rfl
theorem Claimed.decAtHL : Claimed.Statement .decAtHL :=
  claimed .primary 0x35 rfl rfl rfl rfl rfl
theorem Claimed.ldBN8 (v : Byte) : Claimed.Statement (.ldBN8 v) :=
  claimed .primary 0x06 rfl rfl rfl rfl rfl
theorem Claimed.ldCN8 (v : Byte) : Claimed.Statement (.ldCN8 v) :=
  claimed .primary 0x0E rfl rfl rfl rfl rfl
theorem Claimed.ldDN8 (v : Byte) : Claimed.Statement (.ldDN8 v) :=
  claimed .primary 0x16 rfl rfl rfl rfl rfl
theorem Claimed.ldEN8 (v : Byte) : Claimed.Statement (.ldEN8 v) :=
  claimed .primary 0x1E rfl rfl rfl rfl rfl
theorem Claimed.ldHN8 (v : Byte) : Claimed.Statement (.ldHN8 v) :=
  claimed .primary 0x26 rfl rfl rfl rfl rfl
theorem Claimed.ldLN8 (v : Byte) : Claimed.Statement (.ldLN8 v) :=
  claimed .primary 0x2E rfl rfl rfl rfl rfl
theorem Claimed.ldAN8 (v : Byte) : Claimed.Statement (.ldAN8 v) :=
  claimed .primary 0x3E rfl rfl rfl rfl rfl
theorem Claimed.ldAtHLN8 (v : Byte) : Claimed.Statement (.ldAtHLN8 v) :=
  claimed .primary 0x36 rfl rfl rfl rfl rfl
theorem Claimed.rlca : Claimed.Statement .rlca :=
  claimed .primary 0x07 rfl rfl rfl rfl rfl
theorem Claimed.ldAtN16SP (v : Word) : Claimed.Statement (.ldAtN16SP v) :=
  claimed .primary 0x08 rfl rfl rfl rfl rfl
theorem Claimed.addHLBC : Claimed.Statement .addHLBC :=
  claimed .primary 0x09 rfl rfl rfl rfl rfl
theorem Claimed.addHLDE : Claimed.Statement .addHLDE :=
  claimed .primary 0x19 rfl rfl rfl rfl rfl
theorem Claimed.addHLHL : Claimed.Statement .addHLHL :=
  claimed .primary 0x29 rfl rfl rfl rfl rfl
theorem Claimed.addHLSP : Claimed.Statement .addHLSP :=
  claimed .primary 0x39 rfl rfl rfl rfl rfl
theorem Claimed.ldAAtBC : Claimed.Statement .ldAAtBC :=
  claimed .primary 0x0A rfl rfl rfl rfl rfl
theorem Claimed.ldAAtDE : Claimed.Statement .ldAAtDE :=
  claimed .primary 0x1A rfl rfl rfl rfl rfl
theorem Claimed.ldAAtHLInc : Claimed.Statement .ldAAtHLInc :=
  claimed .primary 0x2A rfl rfl rfl rfl rfl
theorem Claimed.ldAAtHLDec : Claimed.Statement .ldAAtHLDec :=
  claimed .primary 0x3A rfl rfl rfl rfl rfl
theorem Claimed.decBC : Claimed.Statement .decBC :=
  claimed .primary 0x0B rfl rfl rfl rfl rfl
theorem Claimed.decDE : Claimed.Statement .decDE :=
  claimed .primary 0x1B rfl rfl rfl rfl rfl
theorem Claimed.decHL : Claimed.Statement .decHL :=
  claimed .primary 0x2B rfl rfl rfl rfl rfl
theorem Claimed.decSP : Claimed.Statement .decSP :=
  claimed .primary 0x3B rfl rfl rfl rfl rfl
theorem Claimed.rrca : Claimed.Statement .rrca :=
  claimed .primary 0x0F rfl rfl rfl rfl rfl
theorem Claimed.stop (v : Byte) : Claimed.Statement (.stop v) :=
  claimed .primary 0x10 rfl rfl rfl rfl rfl
theorem Claimed.rla : Claimed.Statement .rla :=
  claimed .primary 0x17 rfl rfl rfl rfl rfl
theorem Claimed.jrE8 (v : Word) : Claimed.Statement (.jrE8 v) :=
  claimed .primary 0x18 rfl rfl rfl rfl rfl
theorem Claimed.rra : Claimed.Statement .rra :=
  claimed .primary 0x1F rfl rfl rfl rfl rfl
theorem Claimed.jrNZE8 (v : Word) : Claimed.Statement (.jrNZE8 v) :=
  claimed .primary 0x20 rfl rfl rfl rfl rfl
theorem Claimed.jrZE8 (v : Word) : Claimed.Statement (.jrZE8 v) :=
  claimed .primary 0x28 rfl rfl rfl rfl rfl
theorem Claimed.jrNCE8 (v : Word) : Claimed.Statement (.jrNCE8 v) :=
  claimed .primary 0x30 rfl rfl rfl rfl rfl
theorem Claimed.jrCE8 (v : Word) : Claimed.Statement (.jrCE8 v) :=
  claimed .primary 0x38 rfl rfl rfl rfl rfl
theorem Claimed.daa : Claimed.Statement .daa :=
  claimed .primary 0x27 rfl rfl rfl rfl rfl
theorem Claimed.cpl : Claimed.Statement .cpl :=
  claimed .primary 0x2F rfl rfl rfl rfl rfl
theorem Claimed.scf : Claimed.Statement .scf :=
  claimed .primary 0x37 rfl rfl rfl rfl rfl
theorem Claimed.ccf : Claimed.Statement .ccf :=
  claimed .primary 0x3F rfl rfl rfl rfl rfl
theorem Claimed.ldBB : Claimed.Statement .ldBB :=
  claimed .primary 0x40 rfl rfl rfl rfl rfl
theorem Claimed.ldBC : Claimed.Statement .ldBC :=
  claimed .primary 0x41 rfl rfl rfl rfl rfl
theorem Claimed.ldBD : Claimed.Statement .ldBD :=
  claimed .primary 0x42 rfl rfl rfl rfl rfl
theorem Claimed.ldBE : Claimed.Statement .ldBE :=
  claimed .primary 0x43 rfl rfl rfl rfl rfl
theorem Claimed.ldBH : Claimed.Statement .ldBH :=
  claimed .primary 0x44 rfl rfl rfl rfl rfl
theorem Claimed.ldBL : Claimed.Statement .ldBL :=
  claimed .primary 0x45 rfl rfl rfl rfl rfl
theorem Claimed.ldBA : Claimed.Statement .ldBA :=
  claimed .primary 0x47 rfl rfl rfl rfl rfl
theorem Claimed.ldCB : Claimed.Statement .ldCB :=
  claimed .primary 0x48 rfl rfl rfl rfl rfl
theorem Claimed.ldCC : Claimed.Statement .ldCC :=
  claimed .primary 0x49 rfl rfl rfl rfl rfl
theorem Claimed.ldCD : Claimed.Statement .ldCD :=
  claimed .primary 0x4A rfl rfl rfl rfl rfl
theorem Claimed.ldCE : Claimed.Statement .ldCE :=
  claimed .primary 0x4B rfl rfl rfl rfl rfl
theorem Claimed.ldCH : Claimed.Statement .ldCH :=
  claimed .primary 0x4C rfl rfl rfl rfl rfl
theorem Claimed.ldCL : Claimed.Statement .ldCL :=
  claimed .primary 0x4D rfl rfl rfl rfl rfl
theorem Claimed.ldCA : Claimed.Statement .ldCA :=
  claimed .primary 0x4F rfl rfl rfl rfl rfl
theorem Claimed.ldDB : Claimed.Statement .ldDB :=
  claimed .primary 0x50 rfl rfl rfl rfl rfl
theorem Claimed.ldDC : Claimed.Statement .ldDC :=
  claimed .primary 0x51 rfl rfl rfl rfl rfl
theorem Claimed.ldDD : Claimed.Statement .ldDD :=
  claimed .primary 0x52 rfl rfl rfl rfl rfl
theorem Claimed.ldDE : Claimed.Statement .ldDE :=
  claimed .primary 0x53 rfl rfl rfl rfl rfl
theorem Claimed.ldDH : Claimed.Statement .ldDH :=
  claimed .primary 0x54 rfl rfl rfl rfl rfl
theorem Claimed.ldDL : Claimed.Statement .ldDL :=
  claimed .primary 0x55 rfl rfl rfl rfl rfl
theorem Claimed.ldDA : Claimed.Statement .ldDA :=
  claimed .primary 0x57 rfl rfl rfl rfl rfl
theorem Claimed.ldEB : Claimed.Statement .ldEB :=
  claimed .primary 0x58 rfl rfl rfl rfl rfl
theorem Claimed.ldEC : Claimed.Statement .ldEC :=
  claimed .primary 0x59 rfl rfl rfl rfl rfl
theorem Claimed.ldED : Claimed.Statement .ldED :=
  claimed .primary 0x5A rfl rfl rfl rfl rfl
theorem Claimed.ldEE : Claimed.Statement .ldEE :=
  claimed .primary 0x5B rfl rfl rfl rfl rfl
theorem Claimed.ldEH : Claimed.Statement .ldEH :=
  claimed .primary 0x5C rfl rfl rfl rfl rfl
theorem Claimed.ldEL : Claimed.Statement .ldEL :=
  claimed .primary 0x5D rfl rfl rfl rfl rfl
theorem Claimed.ldEA : Claimed.Statement .ldEA :=
  claimed .primary 0x5F rfl rfl rfl rfl rfl
theorem Claimed.ldHB : Claimed.Statement .ldHB :=
  claimed .primary 0x60 rfl rfl rfl rfl rfl
theorem Claimed.ldHC : Claimed.Statement .ldHC :=
  claimed .primary 0x61 rfl rfl rfl rfl rfl
theorem Claimed.ldHD : Claimed.Statement .ldHD :=
  claimed .primary 0x62 rfl rfl rfl rfl rfl
theorem Claimed.ldHE : Claimed.Statement .ldHE :=
  claimed .primary 0x63 rfl rfl rfl rfl rfl
theorem Claimed.ldHH : Claimed.Statement .ldHH :=
  claimed .primary 0x64 rfl rfl rfl rfl rfl
theorem Claimed.ldHL : Claimed.Statement .ldHL :=
  claimed .primary 0x65 rfl rfl rfl rfl rfl
theorem Claimed.ldHA : Claimed.Statement .ldHA :=
  claimed .primary 0x67 rfl rfl rfl rfl rfl
theorem Claimed.ldLB : Claimed.Statement .ldLB :=
  claimed .primary 0x68 rfl rfl rfl rfl rfl
theorem Claimed.ldLC : Claimed.Statement .ldLC :=
  claimed .primary 0x69 rfl rfl rfl rfl rfl
theorem Claimed.ldLD : Claimed.Statement .ldLD :=
  claimed .primary 0x6A rfl rfl rfl rfl rfl
theorem Claimed.ldLE : Claimed.Statement .ldLE :=
  claimed .primary 0x6B rfl rfl rfl rfl rfl
theorem Claimed.ldLH : Claimed.Statement .ldLH :=
  claimed .primary 0x6C rfl rfl rfl rfl rfl
theorem Claimed.ldLL : Claimed.Statement .ldLL :=
  claimed .primary 0x6D rfl rfl rfl rfl rfl
theorem Claimed.ldLA : Claimed.Statement .ldLA :=
  claimed .primary 0x6F rfl rfl rfl rfl rfl
theorem Claimed.ldAB : Claimed.Statement .ldAB :=
  claimed .primary 0x78 rfl rfl rfl rfl rfl
theorem Claimed.ldAC : Claimed.Statement .ldAC :=
  claimed .primary 0x79 rfl rfl rfl rfl rfl
theorem Claimed.ldAD : Claimed.Statement .ldAD :=
  claimed .primary 0x7A rfl rfl rfl rfl rfl
theorem Claimed.ldAE : Claimed.Statement .ldAE :=
  claimed .primary 0x7B rfl rfl rfl rfl rfl
theorem Claimed.ldAH : Claimed.Statement .ldAH :=
  claimed .primary 0x7C rfl rfl rfl rfl rfl
theorem Claimed.ldAL : Claimed.Statement .ldAL :=
  claimed .primary 0x7D rfl rfl rfl rfl rfl
theorem Claimed.ldAA : Claimed.Statement .ldAA :=
  claimed .primary 0x7F rfl rfl rfl rfl rfl
theorem Claimed.ldBAtHL : Claimed.Statement .ldBAtHL :=
  claimed .primary 0x46 rfl rfl rfl rfl rfl
theorem Claimed.ldCAtHL : Claimed.Statement .ldCAtHL :=
  claimed .primary 0x4E rfl rfl rfl rfl rfl
theorem Claimed.ldDAtHL : Claimed.Statement .ldDAtHL :=
  claimed .primary 0x56 rfl rfl rfl rfl rfl
theorem Claimed.ldEAtHL : Claimed.Statement .ldEAtHL :=
  claimed .primary 0x5E rfl rfl rfl rfl rfl
theorem Claimed.ldHAtHL : Claimed.Statement .ldHAtHL :=
  claimed .primary 0x66 rfl rfl rfl rfl rfl
theorem Claimed.ldLAtHL : Claimed.Statement .ldLAtHL :=
  claimed .primary 0x6E rfl rfl rfl rfl rfl
theorem Claimed.ldAAtHL : Claimed.Statement .ldAAtHL :=
  claimed .primary 0x7E rfl rfl rfl rfl rfl
theorem Claimed.ldAtHLB : Claimed.Statement .ldAtHLB :=
  claimed .primary 0x70 rfl rfl rfl rfl rfl
theorem Claimed.ldAtHLC : Claimed.Statement .ldAtHLC :=
  claimed .primary 0x71 rfl rfl rfl rfl rfl
theorem Claimed.ldAtHLD : Claimed.Statement .ldAtHLD :=
  claimed .primary 0x72 rfl rfl rfl rfl rfl
theorem Claimed.ldAtHLE : Claimed.Statement .ldAtHLE :=
  claimed .primary 0x73 rfl rfl rfl rfl rfl
theorem Claimed.ldAtHLH : Claimed.Statement .ldAtHLH :=
  claimed .primary 0x74 rfl rfl rfl rfl rfl
theorem Claimed.ldAtHLL : Claimed.Statement .ldAtHLL :=
  claimed .primary 0x75 rfl rfl rfl rfl rfl
theorem Claimed.ldAtHLA : Claimed.Statement .ldAtHLA :=
  claimed .primary 0x77 rfl rfl rfl rfl rfl
theorem Claimed.halt : Claimed.Statement .halt :=
  claimed .primary 0x76 rfl rfl rfl rfl rfl
theorem Claimed.addAB : Claimed.Statement .addAB :=
  claimed .primary 0x80 rfl rfl rfl rfl rfl
theorem Claimed.addAC : Claimed.Statement .addAC :=
  claimed .primary 0x81 rfl rfl rfl rfl rfl
theorem Claimed.addAD : Claimed.Statement .addAD :=
  claimed .primary 0x82 rfl rfl rfl rfl rfl
theorem Claimed.addAE : Claimed.Statement .addAE :=
  claimed .primary 0x83 rfl rfl rfl rfl rfl
theorem Claimed.addAH : Claimed.Statement .addAH :=
  claimed .primary 0x84 rfl rfl rfl rfl rfl
theorem Claimed.addAL : Claimed.Statement .addAL :=
  claimed .primary 0x85 rfl rfl rfl rfl rfl
theorem Claimed.addAA : Claimed.Statement .addAA :=
  claimed .primary 0x87 rfl rfl rfl rfl rfl
theorem Claimed.addAAtHL : Claimed.Statement .addAAtHL :=
  claimed .primary 0x86 rfl rfl rfl rfl rfl
theorem Claimed.addAN8 (v : Byte) : Claimed.Statement (.addAN8 v) :=
  claimed .primary 0xC6 rfl rfl rfl rfl rfl
theorem Claimed.adcAB : Claimed.Statement .adcAB :=
  claimed .primary 0x88 rfl rfl rfl rfl rfl
theorem Claimed.adcAC : Claimed.Statement .adcAC :=
  claimed .primary 0x89 rfl rfl rfl rfl rfl
theorem Claimed.adcAD : Claimed.Statement .adcAD :=
  claimed .primary 0x8A rfl rfl rfl rfl rfl
theorem Claimed.adcAE : Claimed.Statement .adcAE :=
  claimed .primary 0x8B rfl rfl rfl rfl rfl
theorem Claimed.adcAH : Claimed.Statement .adcAH :=
  claimed .primary 0x8C rfl rfl rfl rfl rfl
theorem Claimed.adcAL : Claimed.Statement .adcAL :=
  claimed .primary 0x8D rfl rfl rfl rfl rfl
theorem Claimed.adcAA : Claimed.Statement .adcAA :=
  claimed .primary 0x8F rfl rfl rfl rfl rfl
theorem Claimed.adcAAtHL : Claimed.Statement .adcAAtHL :=
  claimed .primary 0x8E rfl rfl rfl rfl rfl
theorem Claimed.adcAN8 (v : Byte) : Claimed.Statement (.adcAN8 v) :=
  claimed .primary 0xCE rfl rfl rfl rfl rfl
theorem Claimed.subAB : Claimed.Statement .subAB :=
  claimed .primary 0x90 rfl rfl rfl rfl rfl
theorem Claimed.subAC : Claimed.Statement .subAC :=
  claimed .primary 0x91 rfl rfl rfl rfl rfl
theorem Claimed.subAD : Claimed.Statement .subAD :=
  claimed .primary 0x92 rfl rfl rfl rfl rfl
theorem Claimed.subAE : Claimed.Statement .subAE :=
  claimed .primary 0x93 rfl rfl rfl rfl rfl
theorem Claimed.subAH : Claimed.Statement .subAH :=
  claimed .primary 0x94 rfl rfl rfl rfl rfl
theorem Claimed.subAL : Claimed.Statement .subAL :=
  claimed .primary 0x95 rfl rfl rfl rfl rfl
theorem Claimed.subAA : Claimed.Statement .subAA :=
  claimed .primary 0x97 rfl rfl rfl rfl rfl
theorem Claimed.subAAtHL : Claimed.Statement .subAAtHL :=
  claimed .primary 0x96 rfl rfl rfl rfl rfl
theorem Claimed.subAN8 (v : Byte) : Claimed.Statement (.subAN8 v) :=
  claimed .primary 0xD6 rfl rfl rfl rfl rfl
theorem Claimed.sbcAB : Claimed.Statement .sbcAB :=
  claimed .primary 0x98 rfl rfl rfl rfl rfl
theorem Claimed.sbcAC : Claimed.Statement .sbcAC :=
  claimed .primary 0x99 rfl rfl rfl rfl rfl
theorem Claimed.sbcAD : Claimed.Statement .sbcAD :=
  claimed .primary 0x9A rfl rfl rfl rfl rfl
theorem Claimed.sbcAE : Claimed.Statement .sbcAE :=
  claimed .primary 0x9B rfl rfl rfl rfl rfl
theorem Claimed.sbcAH : Claimed.Statement .sbcAH :=
  claimed .primary 0x9C rfl rfl rfl rfl rfl
theorem Claimed.sbcAL : Claimed.Statement .sbcAL :=
  claimed .primary 0x9D rfl rfl rfl rfl rfl
theorem Claimed.sbcAA : Claimed.Statement .sbcAA :=
  claimed .primary 0x9F rfl rfl rfl rfl rfl
theorem Claimed.sbcAAtHL : Claimed.Statement .sbcAAtHL :=
  claimed .primary 0x9E rfl rfl rfl rfl rfl
theorem Claimed.sbcAN8 (v : Byte) : Claimed.Statement (.sbcAN8 v) :=
  claimed .primary 0xDE rfl rfl rfl rfl rfl
theorem Claimed.andAB : Claimed.Statement .andAB :=
  claimed .primary 0xA0 rfl rfl rfl rfl rfl
theorem Claimed.andAC : Claimed.Statement .andAC :=
  claimed .primary 0xA1 rfl rfl rfl rfl rfl
theorem Claimed.andAD : Claimed.Statement .andAD :=
  claimed .primary 0xA2 rfl rfl rfl rfl rfl
theorem Claimed.andAE : Claimed.Statement .andAE :=
  claimed .primary 0xA3 rfl rfl rfl rfl rfl
theorem Claimed.andAH : Claimed.Statement .andAH :=
  claimed .primary 0xA4 rfl rfl rfl rfl rfl
theorem Claimed.andAL : Claimed.Statement .andAL :=
  claimed .primary 0xA5 rfl rfl rfl rfl rfl
theorem Claimed.andAA : Claimed.Statement .andAA :=
  claimed .primary 0xA7 rfl rfl rfl rfl rfl
theorem Claimed.andAAtHL : Claimed.Statement .andAAtHL :=
  claimed .primary 0xA6 rfl rfl rfl rfl rfl
theorem Claimed.andAN8 (v : Byte) : Claimed.Statement (.andAN8 v) :=
  claimed .primary 0xE6 rfl rfl rfl rfl rfl
theorem Claimed.xorAB : Claimed.Statement .xorAB :=
  claimed .primary 0xA8 rfl rfl rfl rfl rfl
theorem Claimed.xorAC : Claimed.Statement .xorAC :=
  claimed .primary 0xA9 rfl rfl rfl rfl rfl
theorem Claimed.xorAD : Claimed.Statement .xorAD :=
  claimed .primary 0xAA rfl rfl rfl rfl rfl
theorem Claimed.xorAE : Claimed.Statement .xorAE :=
  claimed .primary 0xAB rfl rfl rfl rfl rfl
theorem Claimed.xorAH : Claimed.Statement .xorAH :=
  claimed .primary 0xAC rfl rfl rfl rfl rfl
theorem Claimed.xorAL : Claimed.Statement .xorAL :=
  claimed .primary 0xAD rfl rfl rfl rfl rfl
theorem Claimed.xorAA : Claimed.Statement .xorAA :=
  claimed .primary 0xAF rfl rfl rfl rfl rfl
theorem Claimed.xorAAtHL : Claimed.Statement .xorAAtHL :=
  claimed .primary 0xAE rfl rfl rfl rfl rfl
theorem Claimed.xorAN8 (v : Byte) : Claimed.Statement (.xorAN8 v) :=
  claimed .primary 0xEE rfl rfl rfl rfl rfl
theorem Claimed.orAB : Claimed.Statement .orAB :=
  claimed .primary 0xB0 rfl rfl rfl rfl rfl
theorem Claimed.orAC : Claimed.Statement .orAC :=
  claimed .primary 0xB1 rfl rfl rfl rfl rfl
theorem Claimed.orAD : Claimed.Statement .orAD :=
  claimed .primary 0xB2 rfl rfl rfl rfl rfl
theorem Claimed.orAE : Claimed.Statement .orAE :=
  claimed .primary 0xB3 rfl rfl rfl rfl rfl
theorem Claimed.orAH : Claimed.Statement .orAH :=
  claimed .primary 0xB4 rfl rfl rfl rfl rfl
theorem Claimed.orAL : Claimed.Statement .orAL :=
  claimed .primary 0xB5 rfl rfl rfl rfl rfl
theorem Claimed.orAA : Claimed.Statement .orAA :=
  claimed .primary 0xB7 rfl rfl rfl rfl rfl
theorem Claimed.orAAtHL : Claimed.Statement .orAAtHL :=
  claimed .primary 0xB6 rfl rfl rfl rfl rfl
theorem Claimed.orAN8 (v : Byte) : Claimed.Statement (.orAN8 v) :=
  claimed .primary 0xF6 rfl rfl rfl rfl rfl
theorem Claimed.cpAB : Claimed.Statement .cpAB :=
  claimed .primary 0xB8 rfl rfl rfl rfl rfl
theorem Claimed.cpAC : Claimed.Statement .cpAC :=
  claimed .primary 0xB9 rfl rfl rfl rfl rfl
theorem Claimed.cpAD : Claimed.Statement .cpAD :=
  claimed .primary 0xBA rfl rfl rfl rfl rfl
theorem Claimed.cpAE : Claimed.Statement .cpAE :=
  claimed .primary 0xBB rfl rfl rfl rfl rfl
theorem Claimed.cpAH : Claimed.Statement .cpAH :=
  claimed .primary 0xBC rfl rfl rfl rfl rfl
theorem Claimed.cpAL : Claimed.Statement .cpAL :=
  claimed .primary 0xBD rfl rfl rfl rfl rfl
theorem Claimed.cpAA : Claimed.Statement .cpAA :=
  claimed .primary 0xBF rfl rfl rfl rfl rfl
theorem Claimed.cpAAtHL : Claimed.Statement .cpAAtHL :=
  claimed .primary 0xBE rfl rfl rfl rfl rfl
theorem Claimed.cpAN8 (v : Byte) : Claimed.Statement (.cpAN8 v) :=
  claimed .primary 0xFE rfl rfl rfl rfl rfl
theorem Claimed.retNZ : Claimed.Statement .retNZ :=
  claimed .primary 0xC0 rfl rfl rfl rfl rfl
theorem Claimed.retZ : Claimed.Statement .retZ :=
  claimed .primary 0xC8 rfl rfl rfl rfl rfl
theorem Claimed.retNC : Claimed.Statement .retNC :=
  claimed .primary 0xD0 rfl rfl rfl rfl rfl
theorem Claimed.retC : Claimed.Statement .retC :=
  claimed .primary 0xD8 rfl rfl rfl rfl rfl
theorem Claimed.popBC : Claimed.Statement .popBC :=
  claimed .primary 0xC1 rfl rfl rfl rfl rfl
theorem Claimed.popDE : Claimed.Statement .popDE :=
  claimed .primary 0xD1 rfl rfl rfl rfl rfl
theorem Claimed.popHL : Claimed.Statement .popHL :=
  claimed .primary 0xE1 rfl rfl rfl rfl rfl
theorem Claimed.popAF : Claimed.Statement .popAF :=
  claimed .primary 0xF1 rfl rfl rfl rfl rfl
theorem Claimed.jpNZN16 (v : Word) : Claimed.Statement (.jpNZN16 v) :=
  claimed .primary 0xC2 rfl rfl rfl rfl rfl
theorem Claimed.jpZN16 (v : Word) : Claimed.Statement (.jpZN16 v) :=
  claimed .primary 0xCA rfl rfl rfl rfl rfl
theorem Claimed.jpNCN16 (v : Word) : Claimed.Statement (.jpNCN16 v) :=
  claimed .primary 0xD2 rfl rfl rfl rfl rfl
theorem Claimed.jpCN16 (v : Word) : Claimed.Statement (.jpCN16 v) :=
  claimed .primary 0xDA rfl rfl rfl rfl rfl
theorem Claimed.jpN16 (v : Word) : Claimed.Statement (.jpN16 v) :=
  claimed .primary 0xC3 rfl rfl rfl rfl rfl
theorem Claimed.callNZN16 (v : Word) : Claimed.Statement (.callNZN16 v) :=
  claimed .primary 0xC4 rfl rfl rfl rfl rfl
theorem Claimed.callZN16 (v : Word) : Claimed.Statement (.callZN16 v) :=
  claimed .primary 0xCC rfl rfl rfl rfl rfl
theorem Claimed.callNCN16 (v : Word) : Claimed.Statement (.callNCN16 v) :=
  claimed .primary 0xD4 rfl rfl rfl rfl rfl
theorem Claimed.callCN16 (v : Word) : Claimed.Statement (.callCN16 v) :=
  claimed .primary 0xDC rfl rfl rfl rfl rfl
theorem Claimed.pushBC : Claimed.Statement .pushBC :=
  claimed .primary 0xC5 rfl rfl rfl rfl rfl
theorem Claimed.pushDE : Claimed.Statement .pushDE :=
  claimed .primary 0xD5 rfl rfl rfl rfl rfl
theorem Claimed.pushHL : Claimed.Statement .pushHL :=
  claimed .primary 0xE5 rfl rfl rfl rfl rfl
theorem Claimed.pushAF : Claimed.Statement .pushAF :=
  claimed .primary 0xF5 rfl rfl rfl rfl rfl
theorem Claimed.rst00 : Claimed.Statement .rst00 :=
  claimed .primary 0xC7 rfl rfl rfl rfl rfl
theorem Claimed.rst08 : Claimed.Statement .rst08 :=
  claimed .primary 0xCF rfl rfl rfl rfl rfl
theorem Claimed.rst10 : Claimed.Statement .rst10 :=
  claimed .primary 0xD7 rfl rfl rfl rfl rfl
theorem Claimed.rst18 : Claimed.Statement .rst18 :=
  claimed .primary 0xDF rfl rfl rfl rfl rfl
theorem Claimed.rst20 : Claimed.Statement .rst20 :=
  claimed .primary 0xE7 rfl rfl rfl rfl rfl
theorem Claimed.rst28 : Claimed.Statement .rst28 :=
  claimed .primary 0xEF rfl rfl rfl rfl rfl
theorem Claimed.rst30 : Claimed.Statement .rst30 :=
  claimed .primary 0xF7 rfl rfl rfl rfl rfl
theorem Claimed.rst38 : Claimed.Statement .rst38 :=
  claimed .primary 0xFF rfl rfl rfl rfl rfl
theorem Claimed.ret : Claimed.Statement .ret :=
  claimed .primary 0xC9 rfl rfl rfl rfl rfl
theorem Claimed.reti : Claimed.Statement .reti :=
  claimed .primary 0xD9 rfl rfl rfl rfl rfl
theorem Claimed.callN16 (v : Word) : Claimed.Statement (.callN16 v) :=
  claimed .primary 0xCD rfl rfl rfl rfl rfl
theorem Claimed.ldhAtN8A (v : Byte) : Claimed.Statement (.ldhAtN8A v) :=
  claimed .primary 0xE0 rfl rfl rfl rfl rfl
theorem Claimed.ldhAtCA : Claimed.Statement .ldhAtCA :=
  claimed .primary 0xE2 rfl rfl rfl rfl rfl
theorem Claimed.addSPE8 (v : Word) : Claimed.Statement (.addSPE8 v) :=
  claimed .primary 0xE8 rfl rfl rfl rfl rfl
theorem Claimed.jpHL : Claimed.Statement .jpHL :=
  claimed .primary 0xE9 rfl rfl rfl rfl rfl
theorem Claimed.ldAtN16A (v : Word) : Claimed.Statement (.ldAtN16A v) :=
  claimed .primary 0xEA rfl rfl rfl rfl rfl
theorem Claimed.ldhAAtN8 (v : Byte) : Claimed.Statement (.ldhAAtN8 v) :=
  claimed .primary 0xF0 rfl rfl rfl rfl rfl
theorem Claimed.ldhAAtC : Claimed.Statement .ldhAAtC :=
  claimed .primary 0xF2 rfl rfl rfl rfl rfl
theorem Claimed.di : Claimed.Statement .di :=
  claimed .primary 0xF3 rfl rfl rfl rfl rfl
theorem Claimed.ldHLSPE8 (v : Word) : Claimed.Statement (.ldHLSPE8 v) :=
  claimed .primary 0xF8 rfl rfl rfl rfl rfl
theorem Claimed.ldSPHL : Claimed.Statement .ldSPHL :=
  claimed .primary 0xF9 rfl rfl rfl rfl rfl
theorem Claimed.ldAAtN16 (v : Word) : Claimed.Statement (.ldAAtN16 v) :=
  claimed .primary 0xFA rfl rfl rfl rfl rfl
theorem Claimed.ei : Claimed.Statement .ei :=
  claimed .primary 0xFB rfl rfl rfl rfl rfl
theorem Claimed.rlcB : Claimed.Statement .rlcB :=
  claimed .extended 0x00 rfl rfl rfl rfl rfl
theorem Claimed.rlcC : Claimed.Statement .rlcC :=
  claimed .extended 0x01 rfl rfl rfl rfl rfl
theorem Claimed.rlcD : Claimed.Statement .rlcD :=
  claimed .extended 0x02 rfl rfl rfl rfl rfl
theorem Claimed.rlcE : Claimed.Statement .rlcE :=
  claimed .extended 0x03 rfl rfl rfl rfl rfl
theorem Claimed.rlcH : Claimed.Statement .rlcH :=
  claimed .extended 0x04 rfl rfl rfl rfl rfl
theorem Claimed.rlcL : Claimed.Statement .rlcL :=
  claimed .extended 0x05 rfl rfl rfl rfl rfl
theorem Claimed.rlcA : Claimed.Statement .rlcA :=
  claimed .extended 0x07 rfl rfl rfl rfl rfl
theorem Claimed.rlcAtHL : Claimed.Statement .rlcAtHL :=
  claimed .extended 0x06 rfl rfl rfl rfl rfl
theorem Claimed.rrcB : Claimed.Statement .rrcB :=
  claimed .extended 0x08 rfl rfl rfl rfl rfl
theorem Claimed.rrcC : Claimed.Statement .rrcC :=
  claimed .extended 0x09 rfl rfl rfl rfl rfl
theorem Claimed.rrcD : Claimed.Statement .rrcD :=
  claimed .extended 0x0A rfl rfl rfl rfl rfl
theorem Claimed.rrcE : Claimed.Statement .rrcE :=
  claimed .extended 0x0B rfl rfl rfl rfl rfl
theorem Claimed.rrcH : Claimed.Statement .rrcH :=
  claimed .extended 0x0C rfl rfl rfl rfl rfl
theorem Claimed.rrcL : Claimed.Statement .rrcL :=
  claimed .extended 0x0D rfl rfl rfl rfl rfl
theorem Claimed.rrcA : Claimed.Statement .rrcA :=
  claimed .extended 0x0F rfl rfl rfl rfl rfl
theorem Claimed.rrcAtHL : Claimed.Statement .rrcAtHL :=
  claimed .extended 0x0E rfl rfl rfl rfl rfl
theorem Claimed.rlB : Claimed.Statement .rlB :=
  claimed .extended 0x10 rfl rfl rfl rfl rfl
theorem Claimed.rlC : Claimed.Statement .rlC :=
  claimed .extended 0x11 rfl rfl rfl rfl rfl
theorem Claimed.rlD : Claimed.Statement .rlD :=
  claimed .extended 0x12 rfl rfl rfl rfl rfl
theorem Claimed.rlE : Claimed.Statement .rlE :=
  claimed .extended 0x13 rfl rfl rfl rfl rfl
theorem Claimed.rlH : Claimed.Statement .rlH :=
  claimed .extended 0x14 rfl rfl rfl rfl rfl
theorem Claimed.rlL : Claimed.Statement .rlL :=
  claimed .extended 0x15 rfl rfl rfl rfl rfl
theorem Claimed.rlA : Claimed.Statement .rlA :=
  claimed .extended 0x17 rfl rfl rfl rfl rfl
theorem Claimed.rlAtHL : Claimed.Statement .rlAtHL :=
  claimed .extended 0x16 rfl rfl rfl rfl rfl
theorem Claimed.rrB : Claimed.Statement .rrB :=
  claimed .extended 0x18 rfl rfl rfl rfl rfl
theorem Claimed.rrC : Claimed.Statement .rrC :=
  claimed .extended 0x19 rfl rfl rfl rfl rfl
theorem Claimed.rrD : Claimed.Statement .rrD :=
  claimed .extended 0x1A rfl rfl rfl rfl rfl
theorem Claimed.rrE : Claimed.Statement .rrE :=
  claimed .extended 0x1B rfl rfl rfl rfl rfl
theorem Claimed.rrH : Claimed.Statement .rrH :=
  claimed .extended 0x1C rfl rfl rfl rfl rfl
theorem Claimed.rrL : Claimed.Statement .rrL :=
  claimed .extended 0x1D rfl rfl rfl rfl rfl
theorem Claimed.rrA : Claimed.Statement .rrA :=
  claimed .extended 0x1F rfl rfl rfl rfl rfl
theorem Claimed.rrAtHL : Claimed.Statement .rrAtHL :=
  claimed .extended 0x1E rfl rfl rfl rfl rfl
theorem Claimed.slaB : Claimed.Statement .slaB :=
  claimed .extended 0x20 rfl rfl rfl rfl rfl
theorem Claimed.slaC : Claimed.Statement .slaC :=
  claimed .extended 0x21 rfl rfl rfl rfl rfl
theorem Claimed.slaD : Claimed.Statement .slaD :=
  claimed .extended 0x22 rfl rfl rfl rfl rfl
theorem Claimed.slaE : Claimed.Statement .slaE :=
  claimed .extended 0x23 rfl rfl rfl rfl rfl
theorem Claimed.slaH : Claimed.Statement .slaH :=
  claimed .extended 0x24 rfl rfl rfl rfl rfl
theorem Claimed.slaL : Claimed.Statement .slaL :=
  claimed .extended 0x25 rfl rfl rfl rfl rfl
theorem Claimed.slaA : Claimed.Statement .slaA :=
  claimed .extended 0x27 rfl rfl rfl rfl rfl
theorem Claimed.slaAtHL : Claimed.Statement .slaAtHL :=
  claimed .extended 0x26 rfl rfl rfl rfl rfl
theorem Claimed.sraB : Claimed.Statement .sraB :=
  claimed .extended 0x28 rfl rfl rfl rfl rfl
theorem Claimed.sraC : Claimed.Statement .sraC :=
  claimed .extended 0x29 rfl rfl rfl rfl rfl
theorem Claimed.sraD : Claimed.Statement .sraD :=
  claimed .extended 0x2A rfl rfl rfl rfl rfl
theorem Claimed.sraE : Claimed.Statement .sraE :=
  claimed .extended 0x2B rfl rfl rfl rfl rfl
theorem Claimed.sraH : Claimed.Statement .sraH :=
  claimed .extended 0x2C rfl rfl rfl rfl rfl
theorem Claimed.sraL : Claimed.Statement .sraL :=
  claimed .extended 0x2D rfl rfl rfl rfl rfl
theorem Claimed.sraA : Claimed.Statement .sraA :=
  claimed .extended 0x2F rfl rfl rfl rfl rfl
theorem Claimed.sraAtHL : Claimed.Statement .sraAtHL :=
  claimed .extended 0x2E rfl rfl rfl rfl rfl
theorem Claimed.swapB : Claimed.Statement .swapB :=
  claimed .extended 0x30 rfl rfl rfl rfl rfl
theorem Claimed.swapC : Claimed.Statement .swapC :=
  claimed .extended 0x31 rfl rfl rfl rfl rfl
theorem Claimed.swapD : Claimed.Statement .swapD :=
  claimed .extended 0x32 rfl rfl rfl rfl rfl
theorem Claimed.swapE : Claimed.Statement .swapE :=
  claimed .extended 0x33 rfl rfl rfl rfl rfl
theorem Claimed.swapH : Claimed.Statement .swapH :=
  claimed .extended 0x34 rfl rfl rfl rfl rfl
theorem Claimed.swapL : Claimed.Statement .swapL :=
  claimed .extended 0x35 rfl rfl rfl rfl rfl
theorem Claimed.swapA : Claimed.Statement .swapA :=
  claimed .extended 0x37 rfl rfl rfl rfl rfl
theorem Claimed.swapAtHL : Claimed.Statement .swapAtHL :=
  claimed .extended 0x36 rfl rfl rfl rfl rfl
theorem Claimed.srlB : Claimed.Statement .srlB :=
  claimed .extended 0x38 rfl rfl rfl rfl rfl
theorem Claimed.srlC : Claimed.Statement .srlC :=
  claimed .extended 0x39 rfl rfl rfl rfl rfl
theorem Claimed.srlD : Claimed.Statement .srlD :=
  claimed .extended 0x3A rfl rfl rfl rfl rfl
theorem Claimed.srlE : Claimed.Statement .srlE :=
  claimed .extended 0x3B rfl rfl rfl rfl rfl
theorem Claimed.srlH : Claimed.Statement .srlH :=
  claimed .extended 0x3C rfl rfl rfl rfl rfl
theorem Claimed.srlL : Claimed.Statement .srlL :=
  claimed .extended 0x3D rfl rfl rfl rfl rfl
theorem Claimed.srlA : Claimed.Statement .srlA :=
  claimed .extended 0x3F rfl rfl rfl rfl rfl
theorem Claimed.srlAtHL : Claimed.Statement .srlAtHL :=
  claimed .extended 0x3E rfl rfl rfl rfl rfl
theorem Claimed.bit0B : Claimed.Statement .bit0B :=
  claimed .extended 0x40 rfl rfl rfl rfl rfl
theorem Claimed.bit0C : Claimed.Statement .bit0C :=
  claimed .extended 0x41 rfl rfl rfl rfl rfl
theorem Claimed.bit0D : Claimed.Statement .bit0D :=
  claimed .extended 0x42 rfl rfl rfl rfl rfl
theorem Claimed.bit0E : Claimed.Statement .bit0E :=
  claimed .extended 0x43 rfl rfl rfl rfl rfl
theorem Claimed.bit0H : Claimed.Statement .bit0H :=
  claimed .extended 0x44 rfl rfl rfl rfl rfl
theorem Claimed.bit0L : Claimed.Statement .bit0L :=
  claimed .extended 0x45 rfl rfl rfl rfl rfl
theorem Claimed.bit0A : Claimed.Statement .bit0A :=
  claimed .extended 0x47 rfl rfl rfl rfl rfl
theorem Claimed.bit1B : Claimed.Statement .bit1B :=
  claimed .extended 0x48 rfl rfl rfl rfl rfl
theorem Claimed.bit1C : Claimed.Statement .bit1C :=
  claimed .extended 0x49 rfl rfl rfl rfl rfl
theorem Claimed.bit1D : Claimed.Statement .bit1D :=
  claimed .extended 0x4A rfl rfl rfl rfl rfl
theorem Claimed.bit1E : Claimed.Statement .bit1E :=
  claimed .extended 0x4B rfl rfl rfl rfl rfl
theorem Claimed.bit1H : Claimed.Statement .bit1H :=
  claimed .extended 0x4C rfl rfl rfl rfl rfl
theorem Claimed.bit1L : Claimed.Statement .bit1L :=
  claimed .extended 0x4D rfl rfl rfl rfl rfl
theorem Claimed.bit1A : Claimed.Statement .bit1A :=
  claimed .extended 0x4F rfl rfl rfl rfl rfl
theorem Claimed.bit2B : Claimed.Statement .bit2B :=
  claimed .extended 0x50 rfl rfl rfl rfl rfl
theorem Claimed.bit2C : Claimed.Statement .bit2C :=
  claimed .extended 0x51 rfl rfl rfl rfl rfl
theorem Claimed.bit2D : Claimed.Statement .bit2D :=
  claimed .extended 0x52 rfl rfl rfl rfl rfl
theorem Claimed.bit2E : Claimed.Statement .bit2E :=
  claimed .extended 0x53 rfl rfl rfl rfl rfl
theorem Claimed.bit2H : Claimed.Statement .bit2H :=
  claimed .extended 0x54 rfl rfl rfl rfl rfl
theorem Claimed.bit2L : Claimed.Statement .bit2L :=
  claimed .extended 0x55 rfl rfl rfl rfl rfl
theorem Claimed.bit2A : Claimed.Statement .bit2A :=
  claimed .extended 0x57 rfl rfl rfl rfl rfl
theorem Claimed.bit3B : Claimed.Statement .bit3B :=
  claimed .extended 0x58 rfl rfl rfl rfl rfl
theorem Claimed.bit3C : Claimed.Statement .bit3C :=
  claimed .extended 0x59 rfl rfl rfl rfl rfl
theorem Claimed.bit3D : Claimed.Statement .bit3D :=
  claimed .extended 0x5A rfl rfl rfl rfl rfl
theorem Claimed.bit3E : Claimed.Statement .bit3E :=
  claimed .extended 0x5B rfl rfl rfl rfl rfl
theorem Claimed.bit3H : Claimed.Statement .bit3H :=
  claimed .extended 0x5C rfl rfl rfl rfl rfl
theorem Claimed.bit3L : Claimed.Statement .bit3L :=
  claimed .extended 0x5D rfl rfl rfl rfl rfl
theorem Claimed.bit3A : Claimed.Statement .bit3A :=
  claimed .extended 0x5F rfl rfl rfl rfl rfl
theorem Claimed.bit4B : Claimed.Statement .bit4B :=
  claimed .extended 0x60 rfl rfl rfl rfl rfl
theorem Claimed.bit4C : Claimed.Statement .bit4C :=
  claimed .extended 0x61 rfl rfl rfl rfl rfl
theorem Claimed.bit4D : Claimed.Statement .bit4D :=
  claimed .extended 0x62 rfl rfl rfl rfl rfl
theorem Claimed.bit4E : Claimed.Statement .bit4E :=
  claimed .extended 0x63 rfl rfl rfl rfl rfl
theorem Claimed.bit4H : Claimed.Statement .bit4H :=
  claimed .extended 0x64 rfl rfl rfl rfl rfl
theorem Claimed.bit4L : Claimed.Statement .bit4L :=
  claimed .extended 0x65 rfl rfl rfl rfl rfl
theorem Claimed.bit4A : Claimed.Statement .bit4A :=
  claimed .extended 0x67 rfl rfl rfl rfl rfl
theorem Claimed.bit5B : Claimed.Statement .bit5B :=
  claimed .extended 0x68 rfl rfl rfl rfl rfl
theorem Claimed.bit5C : Claimed.Statement .bit5C :=
  claimed .extended 0x69 rfl rfl rfl rfl rfl
theorem Claimed.bit5D : Claimed.Statement .bit5D :=
  claimed .extended 0x6A rfl rfl rfl rfl rfl
theorem Claimed.bit5E : Claimed.Statement .bit5E :=
  claimed .extended 0x6B rfl rfl rfl rfl rfl
theorem Claimed.bit5H : Claimed.Statement .bit5H :=
  claimed .extended 0x6C rfl rfl rfl rfl rfl
theorem Claimed.bit5L : Claimed.Statement .bit5L :=
  claimed .extended 0x6D rfl rfl rfl rfl rfl
theorem Claimed.bit5A : Claimed.Statement .bit5A :=
  claimed .extended 0x6F rfl rfl rfl rfl rfl
theorem Claimed.bit6B : Claimed.Statement .bit6B :=
  claimed .extended 0x70 rfl rfl rfl rfl rfl
theorem Claimed.bit6C : Claimed.Statement .bit6C :=
  claimed .extended 0x71 rfl rfl rfl rfl rfl
theorem Claimed.bit6D : Claimed.Statement .bit6D :=
  claimed .extended 0x72 rfl rfl rfl rfl rfl
theorem Claimed.bit6E : Claimed.Statement .bit6E :=
  claimed .extended 0x73 rfl rfl rfl rfl rfl
theorem Claimed.bit6H : Claimed.Statement .bit6H :=
  claimed .extended 0x74 rfl rfl rfl rfl rfl
theorem Claimed.bit6L : Claimed.Statement .bit6L :=
  claimed .extended 0x75 rfl rfl rfl rfl rfl
theorem Claimed.bit6A : Claimed.Statement .bit6A :=
  claimed .extended 0x77 rfl rfl rfl rfl rfl
theorem Claimed.bit7B : Claimed.Statement .bit7B :=
  claimed .extended 0x78 rfl rfl rfl rfl rfl
theorem Claimed.bit7C : Claimed.Statement .bit7C :=
  claimed .extended 0x79 rfl rfl rfl rfl rfl
theorem Claimed.bit7D : Claimed.Statement .bit7D :=
  claimed .extended 0x7A rfl rfl rfl rfl rfl
theorem Claimed.bit7E : Claimed.Statement .bit7E :=
  claimed .extended 0x7B rfl rfl rfl rfl rfl
theorem Claimed.bit7H : Claimed.Statement .bit7H :=
  claimed .extended 0x7C rfl rfl rfl rfl rfl
theorem Claimed.bit7L : Claimed.Statement .bit7L :=
  claimed .extended 0x7D rfl rfl rfl rfl rfl
theorem Claimed.bit7A : Claimed.Statement .bit7A :=
  claimed .extended 0x7F rfl rfl rfl rfl rfl
theorem Claimed.bit0AtHL : Claimed.Statement .bit0AtHL :=
  claimed .extended 0x46 rfl rfl rfl rfl rfl
theorem Claimed.bit1AtHL : Claimed.Statement .bit1AtHL :=
  claimed .extended 0x4E rfl rfl rfl rfl rfl
theorem Claimed.bit2AtHL : Claimed.Statement .bit2AtHL :=
  claimed .extended 0x56 rfl rfl rfl rfl rfl
theorem Claimed.bit3AtHL : Claimed.Statement .bit3AtHL :=
  claimed .extended 0x5E rfl rfl rfl rfl rfl
theorem Claimed.bit4AtHL : Claimed.Statement .bit4AtHL :=
  claimed .extended 0x66 rfl rfl rfl rfl rfl
theorem Claimed.bit5AtHL : Claimed.Statement .bit5AtHL :=
  claimed .extended 0x6E rfl rfl rfl rfl rfl
theorem Claimed.bit6AtHL : Claimed.Statement .bit6AtHL :=
  claimed .extended 0x76 rfl rfl rfl rfl rfl
theorem Claimed.bit7AtHL : Claimed.Statement .bit7AtHL :=
  claimed .extended 0x7E rfl rfl rfl rfl rfl
theorem Claimed.res0B : Claimed.Statement .res0B :=
  claimed .extended 0x80 rfl rfl rfl rfl rfl
theorem Claimed.res0C : Claimed.Statement .res0C :=
  claimed .extended 0x81 rfl rfl rfl rfl rfl
theorem Claimed.res0D : Claimed.Statement .res0D :=
  claimed .extended 0x82 rfl rfl rfl rfl rfl
theorem Claimed.res0E : Claimed.Statement .res0E :=
  claimed .extended 0x83 rfl rfl rfl rfl rfl
theorem Claimed.res0H : Claimed.Statement .res0H :=
  claimed .extended 0x84 rfl rfl rfl rfl rfl
theorem Claimed.res0L : Claimed.Statement .res0L :=
  claimed .extended 0x85 rfl rfl rfl rfl rfl
theorem Claimed.res0A : Claimed.Statement .res0A :=
  claimed .extended 0x87 rfl rfl rfl rfl rfl
theorem Claimed.res1B : Claimed.Statement .res1B :=
  claimed .extended 0x88 rfl rfl rfl rfl rfl
theorem Claimed.res1C : Claimed.Statement .res1C :=
  claimed .extended 0x89 rfl rfl rfl rfl rfl
theorem Claimed.res1D : Claimed.Statement .res1D :=
  claimed .extended 0x8A rfl rfl rfl rfl rfl
theorem Claimed.res1E : Claimed.Statement .res1E :=
  claimed .extended 0x8B rfl rfl rfl rfl rfl
theorem Claimed.res1H : Claimed.Statement .res1H :=
  claimed .extended 0x8C rfl rfl rfl rfl rfl
theorem Claimed.res1L : Claimed.Statement .res1L :=
  claimed .extended 0x8D rfl rfl rfl rfl rfl
theorem Claimed.res1A : Claimed.Statement .res1A :=
  claimed .extended 0x8F rfl rfl rfl rfl rfl
theorem Claimed.res2B : Claimed.Statement .res2B :=
  claimed .extended 0x90 rfl rfl rfl rfl rfl
theorem Claimed.res2C : Claimed.Statement .res2C :=
  claimed .extended 0x91 rfl rfl rfl rfl rfl
theorem Claimed.res2D : Claimed.Statement .res2D :=
  claimed .extended 0x92 rfl rfl rfl rfl rfl
theorem Claimed.res2E : Claimed.Statement .res2E :=
  claimed .extended 0x93 rfl rfl rfl rfl rfl
theorem Claimed.res2H : Claimed.Statement .res2H :=
  claimed .extended 0x94 rfl rfl rfl rfl rfl
theorem Claimed.res2L : Claimed.Statement .res2L :=
  claimed .extended 0x95 rfl rfl rfl rfl rfl
theorem Claimed.res2A : Claimed.Statement .res2A :=
  claimed .extended 0x97 rfl rfl rfl rfl rfl
theorem Claimed.res3B : Claimed.Statement .res3B :=
  claimed .extended 0x98 rfl rfl rfl rfl rfl
theorem Claimed.res3C : Claimed.Statement .res3C :=
  claimed .extended 0x99 rfl rfl rfl rfl rfl
theorem Claimed.res3D : Claimed.Statement .res3D :=
  claimed .extended 0x9A rfl rfl rfl rfl rfl
theorem Claimed.res3E : Claimed.Statement .res3E :=
  claimed .extended 0x9B rfl rfl rfl rfl rfl
theorem Claimed.res3H : Claimed.Statement .res3H :=
  claimed .extended 0x9C rfl rfl rfl rfl rfl
theorem Claimed.res3L : Claimed.Statement .res3L :=
  claimed .extended 0x9D rfl rfl rfl rfl rfl
theorem Claimed.res3A : Claimed.Statement .res3A :=
  claimed .extended 0x9F rfl rfl rfl rfl rfl
theorem Claimed.res4B : Claimed.Statement .res4B :=
  claimed .extended 0xA0 rfl rfl rfl rfl rfl
theorem Claimed.res4C : Claimed.Statement .res4C :=
  claimed .extended 0xA1 rfl rfl rfl rfl rfl
theorem Claimed.res4D : Claimed.Statement .res4D :=
  claimed .extended 0xA2 rfl rfl rfl rfl rfl
theorem Claimed.res4E : Claimed.Statement .res4E :=
  claimed .extended 0xA3 rfl rfl rfl rfl rfl
theorem Claimed.res4H : Claimed.Statement .res4H :=
  claimed .extended 0xA4 rfl rfl rfl rfl rfl
theorem Claimed.res4L : Claimed.Statement .res4L :=
  claimed .extended 0xA5 rfl rfl rfl rfl rfl
theorem Claimed.res4A : Claimed.Statement .res4A :=
  claimed .extended 0xA7 rfl rfl rfl rfl rfl
theorem Claimed.res5B : Claimed.Statement .res5B :=
  claimed .extended 0xA8 rfl rfl rfl rfl rfl
theorem Claimed.res5C : Claimed.Statement .res5C :=
  claimed .extended 0xA9 rfl rfl rfl rfl rfl
theorem Claimed.res5D : Claimed.Statement .res5D :=
  claimed .extended 0xAA rfl rfl rfl rfl rfl
theorem Claimed.res5E : Claimed.Statement .res5E :=
  claimed .extended 0xAB rfl rfl rfl rfl rfl
theorem Claimed.res5H : Claimed.Statement .res5H :=
  claimed .extended 0xAC rfl rfl rfl rfl rfl
theorem Claimed.res5L : Claimed.Statement .res5L :=
  claimed .extended 0xAD rfl rfl rfl rfl rfl
theorem Claimed.res5A : Claimed.Statement .res5A :=
  claimed .extended 0xAF rfl rfl rfl rfl rfl
theorem Claimed.res6B : Claimed.Statement .res6B :=
  claimed .extended 0xB0 rfl rfl rfl rfl rfl
theorem Claimed.res6C : Claimed.Statement .res6C :=
  claimed .extended 0xB1 rfl rfl rfl rfl rfl
theorem Claimed.res6D : Claimed.Statement .res6D :=
  claimed .extended 0xB2 rfl rfl rfl rfl rfl
theorem Claimed.res6E : Claimed.Statement .res6E :=
  claimed .extended 0xB3 rfl rfl rfl rfl rfl
theorem Claimed.res6H : Claimed.Statement .res6H :=
  claimed .extended 0xB4 rfl rfl rfl rfl rfl
theorem Claimed.res6L : Claimed.Statement .res6L :=
  claimed .extended 0xB5 rfl rfl rfl rfl rfl
theorem Claimed.res6A : Claimed.Statement .res6A :=
  claimed .extended 0xB7 rfl rfl rfl rfl rfl
theorem Claimed.res7B : Claimed.Statement .res7B :=
  claimed .extended 0xB8 rfl rfl rfl rfl rfl
theorem Claimed.res7C : Claimed.Statement .res7C :=
  claimed .extended 0xB9 rfl rfl rfl rfl rfl
theorem Claimed.res7D : Claimed.Statement .res7D :=
  claimed .extended 0xBA rfl rfl rfl rfl rfl
theorem Claimed.res7E : Claimed.Statement .res7E :=
  claimed .extended 0xBB rfl rfl rfl rfl rfl
theorem Claimed.res7H : Claimed.Statement .res7H :=
  claimed .extended 0xBC rfl rfl rfl rfl rfl
theorem Claimed.res7L : Claimed.Statement .res7L :=
  claimed .extended 0xBD rfl rfl rfl rfl rfl
theorem Claimed.res7A : Claimed.Statement .res7A :=
  claimed .extended 0xBF rfl rfl rfl rfl rfl
theorem Claimed.res0AtHL : Claimed.Statement .res0AtHL :=
  claimed .extended 0x86 rfl rfl rfl rfl rfl
theorem Claimed.res1AtHL : Claimed.Statement .res1AtHL :=
  claimed .extended 0x8E rfl rfl rfl rfl rfl
theorem Claimed.res2AtHL : Claimed.Statement .res2AtHL :=
  claimed .extended 0x96 rfl rfl rfl rfl rfl
theorem Claimed.res3AtHL : Claimed.Statement .res3AtHL :=
  claimed .extended 0x9E rfl rfl rfl rfl rfl
theorem Claimed.res4AtHL : Claimed.Statement .res4AtHL :=
  claimed .extended 0xA6 rfl rfl rfl rfl rfl
theorem Claimed.res5AtHL : Claimed.Statement .res5AtHL :=
  claimed .extended 0xAE rfl rfl rfl rfl rfl
theorem Claimed.res6AtHL : Claimed.Statement .res6AtHL :=
  claimed .extended 0xB6 rfl rfl rfl rfl rfl
theorem Claimed.res7AtHL : Claimed.Statement .res7AtHL :=
  claimed .extended 0xBE rfl rfl rfl rfl rfl
theorem Claimed.set0B : Claimed.Statement .set0B :=
  claimed .extended 0xC0 rfl rfl rfl rfl rfl
theorem Claimed.set0C : Claimed.Statement .set0C :=
  claimed .extended 0xC1 rfl rfl rfl rfl rfl
theorem Claimed.set0D : Claimed.Statement .set0D :=
  claimed .extended 0xC2 rfl rfl rfl rfl rfl
theorem Claimed.set0E : Claimed.Statement .set0E :=
  claimed .extended 0xC3 rfl rfl rfl rfl rfl
theorem Claimed.set0H : Claimed.Statement .set0H :=
  claimed .extended 0xC4 rfl rfl rfl rfl rfl
theorem Claimed.set0L : Claimed.Statement .set0L :=
  claimed .extended 0xC5 rfl rfl rfl rfl rfl
theorem Claimed.set0A : Claimed.Statement .set0A :=
  claimed .extended 0xC7 rfl rfl rfl rfl rfl
theorem Claimed.set1B : Claimed.Statement .set1B :=
  claimed .extended 0xC8 rfl rfl rfl rfl rfl
theorem Claimed.set1C : Claimed.Statement .set1C :=
  claimed .extended 0xC9 rfl rfl rfl rfl rfl
theorem Claimed.set1D : Claimed.Statement .set1D :=
  claimed .extended 0xCA rfl rfl rfl rfl rfl
theorem Claimed.set1E : Claimed.Statement .set1E :=
  claimed .extended 0xCB rfl rfl rfl rfl rfl
theorem Claimed.set1H : Claimed.Statement .set1H :=
  claimed .extended 0xCC rfl rfl rfl rfl rfl
theorem Claimed.set1L : Claimed.Statement .set1L :=
  claimed .extended 0xCD rfl rfl rfl rfl rfl
theorem Claimed.set1A : Claimed.Statement .set1A :=
  claimed .extended 0xCF rfl rfl rfl rfl rfl
theorem Claimed.set2B : Claimed.Statement .set2B :=
  claimed .extended 0xD0 rfl rfl rfl rfl rfl
theorem Claimed.set2C : Claimed.Statement .set2C :=
  claimed .extended 0xD1 rfl rfl rfl rfl rfl
theorem Claimed.set2D : Claimed.Statement .set2D :=
  claimed .extended 0xD2 rfl rfl rfl rfl rfl
theorem Claimed.set2E : Claimed.Statement .set2E :=
  claimed .extended 0xD3 rfl rfl rfl rfl rfl
theorem Claimed.set2H : Claimed.Statement .set2H :=
  claimed .extended 0xD4 rfl rfl rfl rfl rfl
theorem Claimed.set2L : Claimed.Statement .set2L :=
  claimed .extended 0xD5 rfl rfl rfl rfl rfl
theorem Claimed.set2A : Claimed.Statement .set2A :=
  claimed .extended 0xD7 rfl rfl rfl rfl rfl
theorem Claimed.set3B : Claimed.Statement .set3B :=
  claimed .extended 0xD8 rfl rfl rfl rfl rfl
theorem Claimed.set3C : Claimed.Statement .set3C :=
  claimed .extended 0xD9 rfl rfl rfl rfl rfl
theorem Claimed.set3D : Claimed.Statement .set3D :=
  claimed .extended 0xDA rfl rfl rfl rfl rfl
theorem Claimed.set3E : Claimed.Statement .set3E :=
  claimed .extended 0xDB rfl rfl rfl rfl rfl
theorem Claimed.set3H : Claimed.Statement .set3H :=
  claimed .extended 0xDC rfl rfl rfl rfl rfl
theorem Claimed.set3L : Claimed.Statement .set3L :=
  claimed .extended 0xDD rfl rfl rfl rfl rfl
theorem Claimed.set3A : Claimed.Statement .set3A :=
  claimed .extended 0xDF rfl rfl rfl rfl rfl
theorem Claimed.set4B : Claimed.Statement .set4B :=
  claimed .extended 0xE0 rfl rfl rfl rfl rfl
theorem Claimed.set4C : Claimed.Statement .set4C :=
  claimed .extended 0xE1 rfl rfl rfl rfl rfl
theorem Claimed.set4D : Claimed.Statement .set4D :=
  claimed .extended 0xE2 rfl rfl rfl rfl rfl
theorem Claimed.set4E : Claimed.Statement .set4E :=
  claimed .extended 0xE3 rfl rfl rfl rfl rfl
theorem Claimed.set4H : Claimed.Statement .set4H :=
  claimed .extended 0xE4 rfl rfl rfl rfl rfl
theorem Claimed.set4L : Claimed.Statement .set4L :=
  claimed .extended 0xE5 rfl rfl rfl rfl rfl
theorem Claimed.set4A : Claimed.Statement .set4A :=
  claimed .extended 0xE7 rfl rfl rfl rfl rfl
theorem Claimed.set5B : Claimed.Statement .set5B :=
  claimed .extended 0xE8 rfl rfl rfl rfl rfl
theorem Claimed.set5C : Claimed.Statement .set5C :=
  claimed .extended 0xE9 rfl rfl rfl rfl rfl
theorem Claimed.set5D : Claimed.Statement .set5D :=
  claimed .extended 0xEA rfl rfl rfl rfl rfl
theorem Claimed.set5E : Claimed.Statement .set5E :=
  claimed .extended 0xEB rfl rfl rfl rfl rfl
theorem Claimed.set5H : Claimed.Statement .set5H :=
  claimed .extended 0xEC rfl rfl rfl rfl rfl
theorem Claimed.set5L : Claimed.Statement .set5L :=
  claimed .extended 0xED rfl rfl rfl rfl rfl
theorem Claimed.set5A : Claimed.Statement .set5A :=
  claimed .extended 0xEF rfl rfl rfl rfl rfl
theorem Claimed.set6B : Claimed.Statement .set6B :=
  claimed .extended 0xF0 rfl rfl rfl rfl rfl
theorem Claimed.set6C : Claimed.Statement .set6C :=
  claimed .extended 0xF1 rfl rfl rfl rfl rfl
theorem Claimed.set6D : Claimed.Statement .set6D :=
  claimed .extended 0xF2 rfl rfl rfl rfl rfl
theorem Claimed.set6E : Claimed.Statement .set6E :=
  claimed .extended 0xF3 rfl rfl rfl rfl rfl
theorem Claimed.set6H : Claimed.Statement .set6H :=
  claimed .extended 0xF4 rfl rfl rfl rfl rfl
theorem Claimed.set6L : Claimed.Statement .set6L :=
  claimed .extended 0xF5 rfl rfl rfl rfl rfl
theorem Claimed.set6A : Claimed.Statement .set6A :=
  claimed .extended 0xF7 rfl rfl rfl rfl rfl
theorem Claimed.set7B : Claimed.Statement .set7B :=
  claimed .extended 0xF8 rfl rfl rfl rfl rfl
theorem Claimed.set7C : Claimed.Statement .set7C :=
  claimed .extended 0xF9 rfl rfl rfl rfl rfl
theorem Claimed.set7D : Claimed.Statement .set7D :=
  claimed .extended 0xFA rfl rfl rfl rfl rfl
theorem Claimed.set7E : Claimed.Statement .set7E :=
  claimed .extended 0xFB rfl rfl rfl rfl rfl
theorem Claimed.set7H : Claimed.Statement .set7H :=
  claimed .extended 0xFC rfl rfl rfl rfl rfl
theorem Claimed.set7L : Claimed.Statement .set7L :=
  claimed .extended 0xFD rfl rfl rfl rfl rfl
theorem Claimed.set7A : Claimed.Statement .set7A :=
  claimed .extended 0xFF rfl rfl rfl rfl rfl
theorem Claimed.set0AtHL : Claimed.Statement .set0AtHL :=
  claimed .extended 0xC6 rfl rfl rfl rfl rfl
theorem Claimed.set1AtHL : Claimed.Statement .set1AtHL :=
  claimed .extended 0xCE rfl rfl rfl rfl rfl
theorem Claimed.set2AtHL : Claimed.Statement .set2AtHL :=
  claimed .extended 0xD6 rfl rfl rfl rfl rfl
theorem Claimed.set3AtHL : Claimed.Statement .set3AtHL :=
  claimed .extended 0xDE rfl rfl rfl rfl rfl
theorem Claimed.set4AtHL : Claimed.Statement .set4AtHL :=
  claimed .extended 0xE6 rfl rfl rfl rfl rfl
theorem Claimed.set5AtHL : Claimed.Statement .set5AtHL :=
  claimed .extended 0xEE rfl rfl rfl rfl rfl
theorem Claimed.set6AtHL : Claimed.Statement .set6AtHL :=
  claimed .extended 0xF6 rfl rfl rfl rfl rfl
theorem Claimed.set7AtHL : Claimed.Statement .set7AtHL :=
  claimed .extended 0xFE rfl rfl rfl rfl rfl

end Sys2Proof.Laws
end

