-- ==== Sys2Proof/Laws/Decode.lean ====
section
/-! SUPPORT. The parts of the decoder and the encoder: reading operands inverts serializing them, which bytes have a
definition, and what each shape of builder needs. -/

namespace Sys2Proof.Laws

/-- The operands decode can give: each `e8` is the sign extension of a byte. -/
def Canonical (os : List Operand) : Prop := ∀ e, Operand.e8 e ∈ os → isE8 e = true

theorem canonical_nil : Canonical [] := fun e he => by cases he
theorem canonical_n8 (v : Byte) : Canonical [.n8 v] := fun e he => by simp at he
theorem canonical_n16 (v : Word) : Canonical [.n16 v] := fun e he => by simp at he
theorem canonical_e8 (v : Word) : isE8 v = true ↔ Canonical [.e8 v] := by simp [Canonical]

/-- An instruction is well-formed exactly when its operands are. -/
theorem wf_iff_canonical (i : Instr) : i.wf = true ↔ Canonical i.encoding.operands := by
  cases i <;> first
    | exact iff_of_true rfl canonical_nil
    | exact iff_of_true rfl (canonical_n8 _)
    | exact iff_of_true rfl (canonical_n16 _)
    | exact canonical_e8 _

/-- Reading serialized operands gives them back, and leaves what follows. -/
theorem readOperands_bytes (os : List Operand) (rest : List Byte) (h : Canonical os) :
    readOperands (os.map kindOf) (os.flatMap Operand.bytes ++ rest) = some (os, rest) := by
  induction os with
  | nil => rfl
  | cons o os ih =>
    have hr := ih (fun e he => h e (List.mem_cons_of_mem _ he))
    cases o with
    | e8 e =>
      have hs : sext16 (lo e) = e := sext16_lo e (h e List.mem_cons_self)
      simp [readOperands, kindOf, AppendedKind.read, Operand.bytes, hr, hs]
    | n8 v => simp [readOperands, kindOf, AppendedKind.read, Operand.bytes, hr]
    | n16 v => simp [readOperands, kindOf, AppendedKind.read, Operand.bytes, hr]

/-- What was read serializes to the bytes consumed, and is canonical. -/
theorem of_readOperands {ks : List AppendedKind} {bs rest : List Byte} {os : List Operand}
    (h : readOperands ks bs = some (os, rest)) :
    os.map kindOf = ks ∧ os.flatMap Operand.bytes ++ rest = bs ∧ Canonical os := by
  induction ks generalizing bs os with
  | nil =>
    simp only [readOperands, Option.some.injEq, Prod.mk.injEq] at h
    obtain ⟨rfl, rfl⟩ := h
    exact ⟨rfl, rfl, fun e he => by cases he⟩
  | cons k ks ih =>
    unfold readOperands at h
    split at h
    · cases h
    · rename_i o r hk
      split at h
      · cases h
      · rename_i os' r' hr
        cases h
        obtain ⟨h1, h2, h3⟩ := ih hr
        have ho : kindOf o = k ∧ o.bytes ++ r = bs ∧ ∀ e, o = .e8 e → isE8 e = true := by
          cases k <;> unfold AppendedKind.read at hk <;> split at hk <;> cases hk <;> simp_all [kindOf, Operand.bytes]
        obtain ⟨g1, g2, g3⟩ := ho
        refine ⟨by simp [g1, h1], by rw [List.flatMap_cons, List.append_assoc, h2, g2], fun e he => ?_⟩
        rcases List.mem_cons.mp he with he | he
        · exact g3 e he.symm
        · exact h3 e he

/-- No definition reads more than two bytes of operands, none of the extended space reads any (R98). -/
theorem appended_kinds (sp : Space) : ∀ h ∈ pageOf sp,
    h.definition.appended ∈ (match sp with
      | .primary => [[], [AppendedKind.n8], [.e8], [.n16]]
      | .extended => [[]]) := by
  cases sp <;> decide +kernel

/-! ## The bytes an instruction does not have -/

/-- The bytes that do not belong to the instruction do not matter: where `bs` agrees with a window on those that do, the
window decodes as `bs` does, padded with zeros. -/
theorem decodeWindow_of_read (b0 x y : Byte) (bs : List Byte) (h0 : bs.getD 0 0 = b0)
    (h1 : 1 ≤ bytesAfterFirst b0 → bs.getD 1 0 = x) (h2 : 2 ≤ bytesAfterFirst b0 → bs.getD 2 0 = y) :
    decodeWindow (bs.getD 0 0) (bs.getD 1 0) (bs.getD 2 0) = decodeWindow b0 x y := by
  rw [h0]
  unfold bytesAfterFirst at h1 h2
  unfold decodeWindow
  split
  · rename_i hp
    rw [if_pos hp] at h1 h2
    rw [h1 (Nat.le_refl 1)]
    unfold decodeIn
    cases hl : lookup .extended x with
    | none => rfl
    | some d =>
      rw [find_page] at hl
      have hk := appended_kinds .extended d (List.mem_of_find?_eq_some hl)
      simp only [List.mem_singleton] at hk
      simp only [hk, readOperands]
      cases d.build (d.definition.fields x) [] <;> rfl
  · rename_i hp
    rw [if_neg hp] at h1 h2
    unfold decodeIn
    cases hl : lookup .primary b0 with
    | none => rfl
    | some d =>
      rw [hl] at h1 h2
      rw [find_page] at hl
      have hk := appended_kinds .primary d (List.mem_of_find?_eq_some hl)
      simp only [List.mem_cons, List.not_mem_nil, or_false] at hk
      rcases hk with hk | hk | hk | hk <;> simp only [hk] at h1 h2 ⊢ <;> simp only [readOperands, AppendedKind.read]
      · cases d.build (d.definition.fields b0) [] <;> rfl
      · rw [h1 (by decide)]
        cases d.build (d.definition.fields b0) [.n8 x] <;> rfl
      · rw [h1 (by decide)]
        cases d.build (d.definition.fields b0) [.e8 (sext16 x)] <;> rfl
      · rw [h1 (by decide), h2 (by decide)]

/-! ## What a builder that answers was given -/

theorem of_build0 {i j : Instr} {fs : List Nat} {os : List Operand} (h : build0 i fs os = some j) :
    fs = [] ∧ os = [] ∧ j = i := by
  unfold build0 at h
  split at h <;> simp_all

theorem of_build1 {α : Type} {ty : Nat → Option α} {f : α → Instr} {j : Instr} {fs : List Nat} {os : List Operand}
    (h : build1 ty f fs os = some j) : ∃ x a, fs = [x] ∧ os = [] ∧ ty x = some a ∧ j = f a := by
  unfold build1 at h
  split at h
  · obtain ⟨a, ha, rfl⟩ := Option.map_eq_some_iff.mp h
    exact ⟨_, a, rfl, rfl, ha, rfl⟩
  · cases h

theorem of_build2 {α β : Type} {ty : Nat → Option α} {ty' : Nat → Option β} {f : α → β → Instr} {j : Instr}
    {fs : List Nat} {os : List Operand} (h : build2 ty ty' f fs os = some j) :
    ∃ x y a b, fs = [x, y] ∧ os = [] ∧ ty x = some a ∧ ty' y = some b ∧ j = f a b := by
  unfold build2 at h
  split at h
  · obtain ⟨a, ha, h⟩ := Option.bind_eq_some_iff.mp h
    obtain ⟨b, hb, rfl⟩ := Option.map_eq_some_iff.mp h
    exact ⟨_, _, a, b, rfl, rfl, ha, hb, rfl⟩
  · cases h

theorem of_build0N8 {f : Byte → Instr} {j : Instr} {fs : List Nat} {os : List Operand}
    (h : build0N8 f fs os = some j) : ∃ n, fs = [] ∧ os = [.n8 n] ∧ j = f n := by
  unfold build0N8 at h
  split at h <;> simp_all

theorem of_build0E8 {f : Word → Instr} {j : Instr} {fs : List Nat} {os : List Operand}
    (h : build0E8 f fs os = some j) : ∃ e, fs = [] ∧ os = [.e8 e] ∧ j = f e := by
  unfold build0E8 at h
  split at h <;> simp_all

theorem of_build0N16 {f : Word → Instr} {j : Instr} {fs : List Nat} {os : List Operand}
    (h : build0N16 f fs os = some j) : ∃ n, fs = [] ∧ os = [.n16 n] ∧ j = f n := by
  unfold build0N16 at h
  split at h <;> simp_all

theorem of_build1N8 {α : Type} {ty : Nat → Option α} {f : α → Byte → Instr} {j : Instr} {fs : List Nat}
    {os : List Operand} (h : build1N8 ty f fs os = some j) :
    ∃ x a n, fs = [x] ∧ os = [.n8 n] ∧ ty x = some a ∧ j = f a n := by
  unfold build1N8 at h
  split at h
  · obtain ⟨a, ha, rfl⟩ := Option.map_eq_some_iff.mp h
    exact ⟨_, a, _, rfl, rfl, ha, rfl⟩
  · cases h

theorem of_build1E8 {α : Type} {ty : Nat → Option α} {f : α → Word → Instr} {j : Instr} {fs : List Nat}
    {os : List Operand} (h : build1E8 ty f fs os = some j) :
    ∃ x a e, fs = [x] ∧ os = [.e8 e] ∧ ty x = some a ∧ j = f a e := by
  unfold build1E8 at h
  split at h
  · obtain ⟨a, ha, rfl⟩ := Option.map_eq_some_iff.mp h
    exact ⟨_, a, _, rfl, rfl, ha, rfl⟩
  · cases h

theorem of_build1N16 {α : Type} {ty : Nat → Option α} {f : α → Word → Instr} {j : Instr} {fs : List Nat}
    {os : List Operand} (h : build1N16 ty f fs os = some j) :
    ∃ x a n, fs = [x] ∧ os = [.n16 n] ∧ ty x = some a ∧ j = f a n := by
  unfold build1N16 at h
  split at h
  · obtain ⟨a, ha, rfl⟩ := Option.map_eq_some_iff.mp h
    exact ⟨_, a, _, rfl, rfl, ha, rfl⟩
  · cases h

end Sys2Proof.Laws
end

