-- ==== Sys2Proof/Laws/Events.lean ====
section
/-! SUPPORT. The events of a step, whatever `REG_EVENTS` chooses: its MemoryWrite events are those of State, in order, and
every other event reports a register write that the step performs. -/

namespace Sys2Proof.Machine

/-- The MemoryWrite event in an event, if it is one. -/
def Event.memory? : Event → Option MemoryWrite
  | .memoryWrite w => some w
  | .registerWrite _ | .hBlank | .vBlank => none

/-- RegisterWrite events hide and reorder no MemoryWrite event. -/
theorem weave_memory (free : Nat → List RegisterWrite) (k : Nat) (ws : List MemoryWrite) :
    (weave free k ws).filterMap Event.memory? = ws := by
  have none_of (l : List RegisterWrite) : (l.map Event.registerWrite).filterMap Event.memory? = [] := by
    induction l with
    | nil => rfl
    | cons _ _ _ => simp [Event.memory?]
  induction ws generalizing k with
  | nil => exact none_of _
  | cons w ws ih => rw [weave, List.filterMap_append, none_of, List.filterMap_cons]; simp [Event.memory?, ih]

theorem stepEvents_memory (before after : State) :
    (stepEvents before after).filterMap Event.memory? = after.writes := weave_memory _ _ _

/-- What stands in a woven list. -/
theorem mem_weave {free : Nat → List RegisterWrite} {e : Event} {k : Nat} {ws : List MemoryWrite}
    (h : e ∈ weave free k ws) : (∃ w ∈ ws, e = .memoryWrite w) ∨ ∃ n, ∃ w ∈ free n, e = .registerWrite w := by
  induction ws generalizing k with
  | nil =>
    obtain ⟨w, hw, rfl⟩ := List.mem_map.mp h
    exact .inr ⟨k, w, hw, rfl⟩
  | cons w ws ih =>
    rcases List.mem_append.mp h with h | h
    · obtain ⟨r, hr, rfl⟩ := List.mem_map.mp h
      exact .inr ⟨k, r, hr, rfl⟩
    · rcases List.mem_cons.mp h with rfl | h
      · exact .inl ⟨w, List.mem_cons_self, rfl⟩
      · rcases ih h with ⟨x, hx, rfl⟩ | h
        · exact .inl ⟨x, List.mem_cons_of_mem _ hx, rfl⟩
        · exact .inr h

/-- An event of a step is one of its MemoryWrite events, or reports a register write of the step. -/
theorem mem_stepEvents {before after : State} {e : Event} (h : e ∈ stepEvents before after) :
    (∃ w ∈ after.writes, e = .memoryWrite w) ∨
      ∃ w, reports (stepWrites before after) after w = true ∧ e = .registerWrite w := by
  rcases mem_weave h with h | ⟨_, w, hw, rfl⟩
  · exact .inl h
  · exact .inr ⟨w, (List.mem_filter.mp hw).2, rfl⟩

end Sys2Proof.Machine
end

