-- ==== Sys2Proof/Laws/Memory.lean ====
section
/-! SUPPORT. The laws of memory: a read after a write, what the default flat Bus does, and that every transaction of every
Bus keeps the canonical form. -/

namespace Sys2Proof.Machine

@[simp] theorem Memory.read_nil (x : Word) : Memory.read [] x = Config.unlistedByte := rfl

/-- A key lower or higher than an inserted entry's finds what it found before. -/
theorem Memory.find_insert_other (a : Nat) (v : Byte) (m : Memory) (x : Nat) (h : x ≠ a) :
    (Memory.insert a v m).find? (fun y => y.1 == x) = m.find? (fun y => y.1 == x) := by
  induction m with
  | nil => simp [Memory.insert, Ne.symm h]
  | cons c m ih =>
    unfold Memory.insert
    split
    · simp [Ne.symm h]
    · simp only [List.find?_cons, ih]

/-- An inserted entry is found, where no entry had its key. -/
theorem Memory.find_insert_same (a : Nat) (v : Byte) (m : Memory) (h : ∀ y ∈ m, y.1 ≠ a) :
    (Memory.insert a v m).find? (fun y => y.1 == a) = some (a, v) := by
  induction m with
  | nil => simp [Memory.insert]
  | cons c m ih =>
    unfold Memory.insert
    split
    · simp
    · have hc : c.1 ≠ a := h c (by simp)
      have := ih (fun y hy => h y (by simp [hy]))
      simp [hc, this]

/-- Removing one key leaves the search for another as it was. -/
theorem Memory.find_filter_other (a : Nat) (m : Memory) (x : Nat) (h : x ≠ a) :
    (m.filter (fun y => y.1 != a)).find? (fun y => y.1 == x) = m.find? (fun y => y.1 == x) := by
  induction m with
  | nil => rfl
  | cons c m ih =>
    by_cases hc : c.1 = a
    · have hx : c.1 ≠ x := fun e => h (e.symm.trans hc)
      rw [List.filter_cons_of_neg (by simp [hc]), ih, List.find?_cons_of_neg (by simp [hx])]
    · rw [List.filter_cons_of_pos (by simp [hc]), List.find?_cons, List.find?_cons, ih]

/-- A read after a write: the written byte there, what was there elsewhere. No form of the list is assumed. -/
@[simp] theorem Memory.read_write (m : Memory) (a : Word) (v : Byte) (x : Word) :
    (m.write a v).read x = if x = a then v else m.read x := by
  by_cases hx : x = a
  · subst hx
    have hno : ∀ y ∈ m.filter (fun y => y.1 != x.toNat), y.1 ≠ x.toNat := by
      intro y hy; simpa using (List.mem_filter.mp hy).2
    by_cases hv : v = Config.unlistedByte
    · have hnone : (m.filter (fun y => y.1 != x.toNat)).find? (fun y => y.1 == x.toNat) = none := by
        rw [List.find?_eq_none]; intro y hy; simpa using hno y hy
      simp [Memory.write, Memory.read, hv, hnone, -List.find?_filter]
    · simp [Memory.write, Memory.read, hv, Memory.find_insert_same _ _ _ hno]
  · have hn : x.toNat ≠ a.toNat := fun e => hx (BitVec.eq_of_toNat_eq e)
    by_cases hv : v = Config.unlistedByte
    · simp [Memory.write, Memory.read, hv, hx, Memory.find_filter_other _ _ _ hn, -List.find?_filter]
    · simp [Memory.write, Memory.read, hv, hx, Memory.find_insert_other _ _ _ _ hn,
        Memory.find_filter_other _ _ _ hn, -List.find?_filter]

/-- The entries of an insertion. -/
theorem Memory.mem_insert (a : Nat) (v : Byte) (m : Memory) (x : Host.Cell) :
    x ∈ Memory.insert a v m ↔ x = (a, v) ∨ x ∈ m := by
  induction m with
  | nil => simp [Memory.insert]
  | cons c m ih =>
    unfold Memory.insert
    split
    · simp
    · simp only [List.mem_cons, ih]; tauto

/-- An insertion keeps the order, where no entry had its key. -/
theorem Memory.insert_rising (a : Nat) (v : Byte) (m : Memory) (hs : m.Pairwise (fun x y => x.1 < y.1))
    (h : ∀ y ∈ m, y.1 ≠ a) : (Memory.insert a v m).Pairwise (fun x y => x.1 < y.1) := by
  induction m with
  | nil => simp [Memory.insert]
  | cons c m ih =>
    rw [List.pairwise_cons] at hs
    unfold Memory.insert
    split
    · rename_i hlt
      refine List.pairwise_cons.mpr ⟨fun y hy => ?_, List.pairwise_cons.mpr hs⟩
      rcases List.mem_cons.mp hy with rfl | hy
      · exact hlt
      · exact Nat.lt_trans hlt (hs.1 y hy)
    · rename_i hle
      have hne : c.1 ≠ a := h c (by simp)
      refine List.pairwise_cons.mpr ⟨fun y hy => ?_, ih hs.2 (fun y hy => h y (by simp [hy]))⟩
      rcases (Memory.mem_insert a v m y).mp hy with rfl | hy
      · show c.1 < a; omega
      · exact hs.1 y hy

theorem Memory.wf_nil : Memory.wf [] := by simp [Memory.wf]

/-- A write keeps the canonical form. -/
theorem Memory.write_wf (m : Memory) (a : Word) (v : Byte) (h : m.wf) : (m.write a v).wf := by
  obtain ⟨hs, hb⟩ := h
  have hs' : (m.filter (fun y => y.1 != a.toNat)).Pairwise (fun x y => x.1 < y.1) := hs.filter _
  have hb' : ∀ y ∈ m.filter (fun y => y.1 != a.toNat), y.1 < 65536 ∧ y.2 ≠ Config.unlistedByte :=
    fun y hy => hb y (List.mem_filter.mp hy).1
  have hno : ∀ y ∈ m.filter (fun y => y.1 != a.toNat), y.1 ≠ a.toNat := by
    intro y hy; simpa using (List.mem_filter.mp hy).2
  unfold Memory.write
  simp only [beq_iff_eq]
  split
  · exact ⟨hs', hb'⟩
  · rename_i hv
    refine ⟨Memory.insert_rising _ _ _ hs' hno, fun y hy => ?_⟩
    rcases (Memory.mem_insert _ _ _ y).mp hy with rfl | hy
    · exact ⟨a.isLt, hv⟩
    · exact hb' y hy

/-! ## The canonical form of any list -/

theorem Memory.canonical_wf (m : Memory) : Memory.wf (Memory.canonical m) := by
  induction m with
  | nil => exact Memory.wf_nil
  | cons x m ih =>
    unfold Memory.canonical
    split
    · exact Memory.write_wf _ _ _ ih
    · exact ih

/-- A list in canonical form is its own: nothing is lost. -/
theorem Memory.canonical_of_wf (m : Memory) (h : m.wf) : Memory.canonical m = m := by
  induction m with
  | nil => rfl
  | cons x m ih =>
    obtain ⟨hs, hb⟩ := h
    rw [List.pairwise_cons] at hs
    have hx := hb x List.mem_cons_self
    have hm : Memory.wf m := ⟨hs.2, fun y hy => hb y (List.mem_cons_of_mem _ hy)⟩
    have hk : (BitVec.ofNat 16 x.1).toNat = x.1 := by simp [Nat.mod_eq_of_lt hx.1]
    have hf : m.filter (fun y => y.1 != x.1) = m := by
      rw [List.filter_eq_self]
      intro y hy
      simpa using Nat.ne_of_gt (hs.1 y hy)
    unfold Memory.canonical
    rw [if_pos hx.1, ih hm]
    simp only [Memory.write, hk, hf, beq_iff_eq, hx.2, if_false]
    cases m with
    | nil => rfl
    | cons y m => simp [Memory.insert, hs.1 y List.mem_cons_self]

/-! ## Every Bus keeps the canonical form -/

theorem busOf_read_wf (B : BusKind) (m : BusState) (a : Word) (h : m.mem.wf) :
    ((busOf B).read m a).2.mem.wf := by
  cases B with
  | flat => exact h
  | other n => exact Memory.canonical_wf _

theorem busOf_write_wf (B : BusKind) (m : BusState) (a : Word) (v : Byte) (h : m.mem.wf) :
    ((busOf B).write m a v).mem.wf := by
  cases B with
  | flat => exact Memory.write_wf _ _ _ h
  | other n => exact Memory.canonical_wf _

theorem busOf_after_wf (B : BusKind) (l : List Access) (m : BusState) (h : m.mem.wf) :
    ((busOf B).after l m).mem.wf := by
  induction l generalizing m with
  | nil => exact h
  | cons x l ih =>
    cases x with
    | read a => exact ih _ (busOf_read_wf B m a h)
    | write a v => exact ih _ (busOf_write_wf B m a v h)

/-- Transactions one after the other. -/
theorem Bus.after_append (B : Bus) (l k : List Access) (m : BusState) :
    B.after (l ++ k) m = B.after k (B.after l m) := by
  induction l generalizing m with
  | nil => rfl
  | cons x l ih => cases x <;> exact ih _

/-! ## The default flat Bus (20_memory.md R50) -/

section Flat
variable {s : State} (h : s.cfg.bus = .flat)
include h

theorem State.peek_flat (a : Word) : s.peek a = s.m.mem.read a := by
  unfold State.peek; rw [h]; rfl

theorem State.readByte_flat (a : Word) : s.readByte a = s.m.mem.read a := by
  unfold State.readByte; rw [h]; rfl

theorem State.afterRead_flat (a : Word) : s.afterRead a = s := by
  unfold State.afterRead; rw [h]; rfl

theorem State.memWrite_flat (a : Word) (v : Byte) : s.memWrite a v =
    { s with m := { s.m with mem := s.m.mem.write a v }, writes := s.writes ++ [⟨a, s.m.mem.read a, v⟩] } := by
  unfold State.memWrite; rw [State.peek_flat h, h]; rfl

end Flat

/-! ## The named operations -/

theorem State.afterRead_wf (s : State) (a : Word) (h : s.m.mem.wf) : (s.afterRead a).m.mem.wf :=
  busOf_read_wf _ _ _ h

theorem State.memWrite_wf (s : State) (a : Word) (v : Byte) (h : s.m.mem.wf) : (s.memWrite a v).m.mem.wf :=
  busOf_write_wf _ _ _ _ h

theorem State.memWrite16_wf (s : State) (a v : Word) (h : s.m.mem.wf) : (s.memWrite16 a v).m.mem.wf :=
  busOf_write_wf _ _ _ _ (busOf_write_wf _ _ _ _ h)

theorem State.push16_wf (s : State) (v : Word) (h : s.m.mem.wf) : (s.push16 v).m.mem.wf :=
  busOf_write_wf _ _ _ _ (busOf_write_wf _ _ _ _ h)

theorem State.pop16_wf (s : State) (h : s.m.mem.wf) : s.pop16.2.m.mem.wf :=
  busOf_read_wf _ _ _ (busOf_read_wf _ _ _ h)

theorem State.call_wf (s : State) (x : Word) (h : s.m.mem.wf) : (s.call x).m.mem.wf := s.push16_wf s.pc h

theorem State.interruptEntry_wf (s : State) (k : Irq) (h : s.m.mem.wf) : (s.interruptEntry k).m.mem.wf :=
  busOf_write_wf _ _ _ _ (busOf_write_wf _ _ _ _ (busOf_write_wf _ _ _ _ h))

end Sys2Proof.Machine
end

