-- ==== Sys2Proof/Laws/State.lean ====
section
/-! SUPPORT. One lemma for each field of State under each named update, true by unfolding, so that no later proof
unfolds a record update. -/

namespace Sys2Proof.Machine

variable (s : State)

/-! ## Registers by name -/

@[simp] theorem State.reg_a : s.reg .a = s.a := rfl
@[simp] theorem State.reg_b : s.reg .b = s.b := rfl
@[simp] theorem State.reg_c : s.reg .c = s.c := rfl
@[simp] theorem State.reg_d : s.reg .d = s.d := rfl
@[simp] theorem State.reg_e : s.reg .e = s.e := rfl
@[simp] theorem State.reg_h : s.reg .h = s.h := rfl
@[simp] theorem State.reg_l : s.reg .l = s.l := rfl

/-! ## `afterRead` -/

@[simp] theorem State.afterRead_a (x : Word) : (s.afterRead x).a = s.a := rfl
@[simp] theorem State.afterRead_f (x : Word) : (s.afterRead x).f = s.f := rfl
@[simp] theorem State.afterRead_b (x : Word) : (s.afterRead x).b = s.b := rfl
@[simp] theorem State.afterRead_c (x : Word) : (s.afterRead x).c = s.c := rfl
@[simp] theorem State.afterRead_d (x : Word) : (s.afterRead x).d = s.d := rfl
@[simp] theorem State.afterRead_e (x : Word) : (s.afterRead x).e = s.e := rfl
@[simp] theorem State.afterRead_h (x : Word) : (s.afterRead x).h = s.h := rfl
@[simp] theorem State.afterRead_l (x : Word) : (s.afterRead x).l = s.l := rfl
@[simp] theorem State.afterRead_sp (x : Word) : (s.afterRead x).sp = s.sp := rfl
@[simp] theorem State.afterRead_pc (x : Word) : (s.afterRead x).pc = s.pc := rfl
@[simp] theorem State.afterRead_ime (x : Word) : (s.afterRead x).ime = s.ime := rfl
@[simp] theorem State.afterRead_eiPending (x : Word) : (s.afterRead x).eiPending = s.eiPending := rfl
@[simp] theorem State.afterRead_haltBug (x : Word) : (s.afterRead x).haltBug = s.haltBug := rfl
@[simp] theorem State.afterRead_mode (x : Word) : (s.afterRead x).mode = s.mode := rfl
@[simp] theorem State.afterRead_m (x : Word) : (s.afterRead x).m = ((busOf s.cfg.bus).read s.m x).2 := rfl
@[simp] theorem State.afterRead_writes (x : Word) : (s.afterRead x).writes = s.writes := rfl
@[simp] theorem State.afterRead_result (x : Word) : (s.afterRead x).result = s.result := rfl
@[simp] theorem State.afterRead_env (x : Word) : (s.afterRead x).env = s.env := rfl
@[simp] theorem State.afterRead_cfg (x : Word) : (s.afterRead x).cfg = s.cfg := rfl

/-! ## `afterHL` -/

@[simp] theorem State.afterHL_a : s.afterHL.a = s.a := rfl
@[simp] theorem State.afterHL_f : s.afterHL.f = s.f := rfl
@[simp] theorem State.afterHL_b : s.afterHL.b = s.b := rfl
@[simp] theorem State.afterHL_c : s.afterHL.c = s.c := rfl
@[simp] theorem State.afterHL_d : s.afterHL.d = s.d := rfl
@[simp] theorem State.afterHL_e : s.afterHL.e = s.e := rfl
@[simp] theorem State.afterHL_h : s.afterHL.h = s.h := rfl
@[simp] theorem State.afterHL_l : s.afterHL.l = s.l := rfl
@[simp] theorem State.afterHL_sp : s.afterHL.sp = s.sp := rfl
@[simp] theorem State.afterHL_pc : s.afterHL.pc = s.pc := rfl
@[simp] theorem State.afterHL_ime : s.afterHL.ime = s.ime := rfl
@[simp] theorem State.afterHL_eiPending : s.afterHL.eiPending = s.eiPending := rfl
@[simp] theorem State.afterHL_haltBug : s.afterHL.haltBug = s.haltBug := rfl
@[simp] theorem State.afterHL_mode : s.afterHL.mode = s.mode := rfl
@[simp] theorem State.afterHL_m : s.afterHL.m = ((busOf s.cfg.bus).read s.m s.hl).2 := rfl
@[simp] theorem State.afterHL_writes : s.afterHL.writes = s.writes := rfl
@[simp] theorem State.afterHL_result : s.afterHL.result = s.result := rfl
@[simp] theorem State.afterHL_env : s.afterHL.env = s.env := rfl
@[simp] theorem State.afterHL_cfg : s.afterHL.cfg = s.cfg := rfl

/-! ## `memWrite` -/

@[simp] theorem State.memWrite_a (x : Word) (v : Byte) : (s.memWrite x v).a = s.a := rfl
@[simp] theorem State.memWrite_f (x : Word) (v : Byte) : (s.memWrite x v).f = s.f := rfl
@[simp] theorem State.memWrite_b (x : Word) (v : Byte) : (s.memWrite x v).b = s.b := rfl
@[simp] theorem State.memWrite_c (x : Word) (v : Byte) : (s.memWrite x v).c = s.c := rfl
@[simp] theorem State.memWrite_d (x : Word) (v : Byte) : (s.memWrite x v).d = s.d := rfl
@[simp] theorem State.memWrite_e (x : Word) (v : Byte) : (s.memWrite x v).e = s.e := rfl
@[simp] theorem State.memWrite_h (x : Word) (v : Byte) : (s.memWrite x v).h = s.h := rfl
@[simp] theorem State.memWrite_l (x : Word) (v : Byte) : (s.memWrite x v).l = s.l := rfl
@[simp] theorem State.memWrite_sp (x : Word) (v : Byte) : (s.memWrite x v).sp = s.sp := rfl
@[simp] theorem State.memWrite_pc (x : Word) (v : Byte) : (s.memWrite x v).pc = s.pc := rfl
@[simp] theorem State.memWrite_ime (x : Word) (v : Byte) : (s.memWrite x v).ime = s.ime := rfl
@[simp] theorem State.memWrite_eiPending (x : Word) (v : Byte) : (s.memWrite x v).eiPending = s.eiPending := rfl
@[simp] theorem State.memWrite_haltBug (x : Word) (v : Byte) : (s.memWrite x v).haltBug = s.haltBug := rfl
@[simp] theorem State.memWrite_mode (x : Word) (v : Byte) : (s.memWrite x v).mode = s.mode := rfl
@[simp] theorem State.memWrite_m (x : Word) (v : Byte) : (s.memWrite x v).m = (busOf s.cfg.bus).write s.m x v := rfl
@[simp] theorem State.memWrite_writes (x : Word) (v : Byte) :
    (s.memWrite x v).writes = s.writes ++ [⟨x, s.peek x, v⟩] := rfl
@[simp] theorem State.memWrite_result (x : Word) (v : Byte) : (s.memWrite x v).result = s.result := rfl
@[simp] theorem State.memWrite_env (x : Word) (v : Byte) : (s.memWrite x v).env = s.env := rfl
@[simp] theorem State.memWrite_cfg (x : Word) (v : Byte) : (s.memWrite x v).cfg = s.cfg := rfl

/-! ## `memWrite16` -/

@[simp] theorem State.memWrite16_a (x v : Word) : (s.memWrite16 x v).a = s.a := rfl
@[simp] theorem State.memWrite16_f (x v : Word) : (s.memWrite16 x v).f = s.f := rfl
@[simp] theorem State.memWrite16_b (x v : Word) : (s.memWrite16 x v).b = s.b := rfl
@[simp] theorem State.memWrite16_c (x v : Word) : (s.memWrite16 x v).c = s.c := rfl
@[simp] theorem State.memWrite16_d (x v : Word) : (s.memWrite16 x v).d = s.d := rfl
@[simp] theorem State.memWrite16_e (x v : Word) : (s.memWrite16 x v).e = s.e := rfl
@[simp] theorem State.memWrite16_h (x v : Word) : (s.memWrite16 x v).h = s.h := rfl
@[simp] theorem State.memWrite16_l (x v : Word) : (s.memWrite16 x v).l = s.l := rfl
@[simp] theorem State.memWrite16_sp (x v : Word) : (s.memWrite16 x v).sp = s.sp := rfl
@[simp] theorem State.memWrite16_pc (x v : Word) : (s.memWrite16 x v).pc = s.pc := rfl
@[simp] theorem State.memWrite16_ime (x v : Word) : (s.memWrite16 x v).ime = s.ime := rfl
@[simp] theorem State.memWrite16_eiPending (x v : Word) : (s.memWrite16 x v).eiPending = s.eiPending := rfl
@[simp] theorem State.memWrite16_haltBug (x v : Word) : (s.memWrite16 x v).haltBug = s.haltBug := rfl
@[simp] theorem State.memWrite16_mode (x v : Word) : (s.memWrite16 x v).mode = s.mode := rfl
@[simp] theorem State.memWrite16_m (x v : Word) :
    (s.memWrite16 x v).m = (busOf s.cfg.bus).write ((busOf s.cfg.bus).write s.m x (lo v)) (x + 1) (hi v) := rfl
@[simp] theorem State.memWrite16_writes (x v : Word) :
    (s.memWrite16 x v).writes = s.writes ++ [⟨x, s.peek x, lo v⟩] ++
      [⟨x + 1, (busOf s.cfg.bus).peek ((busOf s.cfg.bus).write s.m x (lo v)) (x + 1), hi v⟩] := rfl
@[simp] theorem State.memWrite16_result (x v : Word) : (s.memWrite16 x v).result = s.result := rfl
@[simp] theorem State.memWrite16_env (x v : Word) : (s.memWrite16 x v).env = s.env := rfl
@[simp] theorem State.memWrite16_cfg (x v : Word) : (s.memWrite16 x v).cfg = s.cfg := rfl

/-! ## `setBC` -/

@[simp] theorem State.setBC_a (v : Word) : (s.setBC v).a = s.a := rfl
@[simp] theorem State.setBC_f (v : Word) : (s.setBC v).f = s.f := rfl
@[simp] theorem State.setBC_b (v : Word) : (s.setBC v).b = hi v := rfl
@[simp] theorem State.setBC_c (v : Word) : (s.setBC v).c = lo v := rfl
@[simp] theorem State.setBC_d (v : Word) : (s.setBC v).d = s.d := rfl
@[simp] theorem State.setBC_e (v : Word) : (s.setBC v).e = s.e := rfl
@[simp] theorem State.setBC_h (v : Word) : (s.setBC v).h = s.h := rfl
@[simp] theorem State.setBC_l (v : Word) : (s.setBC v).l = s.l := rfl
@[simp] theorem State.setBC_sp (v : Word) : (s.setBC v).sp = s.sp := rfl
@[simp] theorem State.setBC_pc (v : Word) : (s.setBC v).pc = s.pc := rfl
@[simp] theorem State.setBC_ime (v : Word) : (s.setBC v).ime = s.ime := rfl
@[simp] theorem State.setBC_eiPending (v : Word) : (s.setBC v).eiPending = s.eiPending := rfl
@[simp] theorem State.setBC_haltBug (v : Word) : (s.setBC v).haltBug = s.haltBug := rfl
@[simp] theorem State.setBC_mode (v : Word) : (s.setBC v).mode = s.mode := rfl
@[simp] theorem State.setBC_m (v : Word) : (s.setBC v).m = s.m := rfl
@[simp] theorem State.setBC_writes (v : Word) : (s.setBC v).writes = s.writes := rfl
@[simp] theorem State.setBC_result (v : Word) : (s.setBC v).result = s.result := rfl
@[simp] theorem State.setBC_env (v : Word) : (s.setBC v).env = s.env := rfl
@[simp] theorem State.setBC_cfg (v : Word) : (s.setBC v).cfg = s.cfg := rfl

/-! ## `setDE` -/

@[simp] theorem State.setDE_a (v : Word) : (s.setDE v).a = s.a := rfl
@[simp] theorem State.setDE_f (v : Word) : (s.setDE v).f = s.f := rfl
@[simp] theorem State.setDE_b (v : Word) : (s.setDE v).b = s.b := rfl
@[simp] theorem State.setDE_c (v : Word) : (s.setDE v).c = s.c := rfl
@[simp] theorem State.setDE_d (v : Word) : (s.setDE v).d = hi v := rfl
@[simp] theorem State.setDE_e (v : Word) : (s.setDE v).e = lo v := rfl
@[simp] theorem State.setDE_h (v : Word) : (s.setDE v).h = s.h := rfl
@[simp] theorem State.setDE_l (v : Word) : (s.setDE v).l = s.l := rfl
@[simp] theorem State.setDE_sp (v : Word) : (s.setDE v).sp = s.sp := rfl
@[simp] theorem State.setDE_pc (v : Word) : (s.setDE v).pc = s.pc := rfl
@[simp] theorem State.setDE_ime (v : Word) : (s.setDE v).ime = s.ime := rfl
@[simp] theorem State.setDE_eiPending (v : Word) : (s.setDE v).eiPending = s.eiPending := rfl
@[simp] theorem State.setDE_haltBug (v : Word) : (s.setDE v).haltBug = s.haltBug := rfl
@[simp] theorem State.setDE_mode (v : Word) : (s.setDE v).mode = s.mode := rfl
@[simp] theorem State.setDE_m (v : Word) : (s.setDE v).m = s.m := rfl
@[simp] theorem State.setDE_writes (v : Word) : (s.setDE v).writes = s.writes := rfl
@[simp] theorem State.setDE_result (v : Word) : (s.setDE v).result = s.result := rfl
@[simp] theorem State.setDE_env (v : Word) : (s.setDE v).env = s.env := rfl
@[simp] theorem State.setDE_cfg (v : Word) : (s.setDE v).cfg = s.cfg := rfl

/-! ## `setHL` -/

@[simp] theorem State.setHL_a (v : Word) : (s.setHL v).a = s.a := rfl
@[simp] theorem State.setHL_f (v : Word) : (s.setHL v).f = s.f := rfl
@[simp] theorem State.setHL_b (v : Word) : (s.setHL v).b = s.b := rfl
@[simp] theorem State.setHL_c (v : Word) : (s.setHL v).c = s.c := rfl
@[simp] theorem State.setHL_d (v : Word) : (s.setHL v).d = s.d := rfl
@[simp] theorem State.setHL_e (v : Word) : (s.setHL v).e = s.e := rfl
@[simp] theorem State.setHL_h (v : Word) : (s.setHL v).h = hi v := rfl
@[simp] theorem State.setHL_l (v : Word) : (s.setHL v).l = lo v := rfl
@[simp] theorem State.setHL_sp (v : Word) : (s.setHL v).sp = s.sp := rfl
@[simp] theorem State.setHL_pc (v : Word) : (s.setHL v).pc = s.pc := rfl
@[simp] theorem State.setHL_ime (v : Word) : (s.setHL v).ime = s.ime := rfl
@[simp] theorem State.setHL_eiPending (v : Word) : (s.setHL v).eiPending = s.eiPending := rfl
@[simp] theorem State.setHL_haltBug (v : Word) : (s.setHL v).haltBug = s.haltBug := rfl
@[simp] theorem State.setHL_mode (v : Word) : (s.setHL v).mode = s.mode := rfl
@[simp] theorem State.setHL_m (v : Word) : (s.setHL v).m = s.m := rfl
@[simp] theorem State.setHL_writes (v : Word) : (s.setHL v).writes = s.writes := rfl
@[simp] theorem State.setHL_result (v : Word) : (s.setHL v).result = s.result := rfl
@[simp] theorem State.setHL_env (v : Word) : (s.setHL v).env = s.env := rfl
@[simp] theorem State.setHL_cfg (v : Word) : (s.setHL v).cfg = s.cfg := rfl

/-! ## `setAF` -/

@[simp] theorem State.setAF_a (v : Word) : (s.setAF v).a = hi v := rfl
@[simp] theorem State.setAF_f (v : Word) : (s.setAF v).f = lo v &&& 0xF0 := rfl
@[simp] theorem State.setAF_b (v : Word) : (s.setAF v).b = s.b := rfl
@[simp] theorem State.setAF_c (v : Word) : (s.setAF v).c = s.c := rfl
@[simp] theorem State.setAF_d (v : Word) : (s.setAF v).d = s.d := rfl
@[simp] theorem State.setAF_e (v : Word) : (s.setAF v).e = s.e := rfl
@[simp] theorem State.setAF_h (v : Word) : (s.setAF v).h = s.h := rfl
@[simp] theorem State.setAF_l (v : Word) : (s.setAF v).l = s.l := rfl
@[simp] theorem State.setAF_sp (v : Word) : (s.setAF v).sp = s.sp := rfl
@[simp] theorem State.setAF_pc (v : Word) : (s.setAF v).pc = s.pc := rfl
@[simp] theorem State.setAF_ime (v : Word) : (s.setAF v).ime = s.ime := rfl
@[simp] theorem State.setAF_eiPending (v : Word) : (s.setAF v).eiPending = s.eiPending := rfl
@[simp] theorem State.setAF_haltBug (v : Word) : (s.setAF v).haltBug = s.haltBug := rfl
@[simp] theorem State.setAF_mode (v : Word) : (s.setAF v).mode = s.mode := rfl
@[simp] theorem State.setAF_m (v : Word) : (s.setAF v).m = s.m := rfl
@[simp] theorem State.setAF_writes (v : Word) : (s.setAF v).writes = s.writes := rfl
@[simp] theorem State.setAF_result (v : Word) : (s.setAF v).result = s.result := rfl
@[simp] theorem State.setAF_env (v : Word) : (s.setAF v).env = s.env := rfl
@[simp] theorem State.setAF_cfg (v : Word) : (s.setAF v).cfg = s.cfg := rfl

/-! ## `setFlags` -/

@[simp] theorem State.setFlags_a (z n h c : Bool) : (s.setFlags z n h c).a = s.a := rfl
@[simp] theorem State.setFlags_f (z n h c : Bool) : (s.setFlags z n h c).f = Flags.write s.f z n h c := rfl
@[simp] theorem State.setFlags_b (z n h c : Bool) : (s.setFlags z n h c).b = s.b := rfl
@[simp] theorem State.setFlags_c (z n h c : Bool) : (s.setFlags z n h c).c = s.c := rfl
@[simp] theorem State.setFlags_d (z n h c : Bool) : (s.setFlags z n h c).d = s.d := rfl
@[simp] theorem State.setFlags_e (z n h c : Bool) : (s.setFlags z n h c).e = s.e := rfl
@[simp] theorem State.setFlags_h (z n h c : Bool) : (s.setFlags z n h c).h = s.h := rfl
@[simp] theorem State.setFlags_l (z n h c : Bool) : (s.setFlags z n h c).l = s.l := rfl
@[simp] theorem State.setFlags_sp (z n h c : Bool) : (s.setFlags z n h c).sp = s.sp := rfl
@[simp] theorem State.setFlags_pc (z n h c : Bool) : (s.setFlags z n h c).pc = s.pc := rfl
@[simp] theorem State.setFlags_ime (z n h c : Bool) : (s.setFlags z n h c).ime = s.ime := rfl
@[simp] theorem State.setFlags_eiPending (z n h c : Bool) : (s.setFlags z n h c).eiPending = s.eiPending := rfl
@[simp] theorem State.setFlags_haltBug (z n h c : Bool) : (s.setFlags z n h c).haltBug = s.haltBug := rfl
@[simp] theorem State.setFlags_mode (z n h c : Bool) : (s.setFlags z n h c).mode = s.mode := rfl
@[simp] theorem State.setFlags_m (z n h c : Bool) : (s.setFlags z n h c).m = s.m := rfl
@[simp] theorem State.setFlags_writes (z n h c : Bool) : (s.setFlags z n h c).writes = s.writes := rfl
@[simp] theorem State.setFlags_result (z n h c : Bool) : (s.setFlags z n h c).result = s.result := rfl
@[simp] theorem State.setFlags_env (z n h c : Bool) : (s.setFlags z n h c).env = s.env := rfl
@[simp] theorem State.setFlags_cfg (z n h c : Bool) : (s.setFlags z n h c).cfg = s.cfg := rfl

/-! ## `putFlags` -/

@[simp] theorem State.putFlags_a (o : AluOut) : (s.putFlags o).a = s.a := rfl
@[simp] theorem State.putFlags_f (o : AluOut) : (s.putFlags o).f = Flags.write s.f o.z o.n o.h o.c := rfl
@[simp] theorem State.putFlags_b (o : AluOut) : (s.putFlags o).b = s.b := rfl
@[simp] theorem State.putFlags_c (o : AluOut) : (s.putFlags o).c = s.c := rfl
@[simp] theorem State.putFlags_d (o : AluOut) : (s.putFlags o).d = s.d := rfl
@[simp] theorem State.putFlags_e (o : AluOut) : (s.putFlags o).e = s.e := rfl
@[simp] theorem State.putFlags_h (o : AluOut) : (s.putFlags o).h = s.h := rfl
@[simp] theorem State.putFlags_l (o : AluOut) : (s.putFlags o).l = s.l := rfl
@[simp] theorem State.putFlags_sp (o : AluOut) : (s.putFlags o).sp = s.sp := rfl
@[simp] theorem State.putFlags_pc (o : AluOut) : (s.putFlags o).pc = s.pc := rfl
@[simp] theorem State.putFlags_ime (o : AluOut) : (s.putFlags o).ime = s.ime := rfl
@[simp] theorem State.putFlags_eiPending (o : AluOut) : (s.putFlags o).eiPending = s.eiPending := rfl
@[simp] theorem State.putFlags_haltBug (o : AluOut) : (s.putFlags o).haltBug = s.haltBug := rfl
@[simp] theorem State.putFlags_mode (o : AluOut) : (s.putFlags o).mode = s.mode := rfl
@[simp] theorem State.putFlags_m (o : AluOut) : (s.putFlags o).m = s.m := rfl
@[simp] theorem State.putFlags_writes (o : AluOut) : (s.putFlags o).writes = s.writes := rfl
@[simp] theorem State.putFlags_result (o : AluOut) : (s.putFlags o).result = s.result := rfl
@[simp] theorem State.putFlags_env (o : AluOut) : (s.putFlags o).env = s.env := rfl
@[simp] theorem State.putFlags_cfg (o : AluOut) : (s.putFlags o).cfg = s.cfg := rfl

/-! ## `putAtHL` -/

@[simp] theorem State.putAtHL_a (o : AluOut) : (s.putAtHL o).a = s.a := rfl
@[simp] theorem State.putAtHL_f (o : AluOut) : (s.putAtHL o).f = Flags.write s.f o.z o.n o.h o.c := rfl
@[simp] theorem State.putAtHL_b (o : AluOut) : (s.putAtHL o).b = s.b := rfl
@[simp] theorem State.putAtHL_c (o : AluOut) : (s.putAtHL o).c = s.c := rfl
@[simp] theorem State.putAtHL_d (o : AluOut) : (s.putAtHL o).d = s.d := rfl
@[simp] theorem State.putAtHL_e (o : AluOut) : (s.putAtHL o).e = s.e := rfl
@[simp] theorem State.putAtHL_h (o : AluOut) : (s.putAtHL o).h = s.h := rfl
@[simp] theorem State.putAtHL_l (o : AluOut) : (s.putAtHL o).l = s.l := rfl
@[simp] theorem State.putAtHL_sp (o : AluOut) : (s.putAtHL o).sp = s.sp := rfl
@[simp] theorem State.putAtHL_pc (o : AluOut) : (s.putAtHL o).pc = s.pc := rfl
@[simp] theorem State.putAtHL_ime (o : AluOut) : (s.putAtHL o).ime = s.ime := rfl
@[simp] theorem State.putAtHL_eiPending (o : AluOut) : (s.putAtHL o).eiPending = s.eiPending := rfl
@[simp] theorem State.putAtHL_haltBug (o : AluOut) : (s.putAtHL o).haltBug = s.haltBug := rfl
@[simp] theorem State.putAtHL_mode (o : AluOut) : (s.putAtHL o).mode = s.mode := rfl
@[simp] theorem State.putAtHL_m (o : AluOut) : (s.putAtHL o).m = (busOf s.cfg.bus).write s.m s.hl o.res := rfl
@[simp] theorem State.putAtHL_writes (o : AluOut) :
    (s.putAtHL o).writes = s.writes ++ [⟨s.hl, s.peek s.hl, o.res⟩] := rfl
@[simp] theorem State.putAtHL_result (o : AluOut) : (s.putAtHL o).result = s.result := rfl
@[simp] theorem State.putAtHL_env (o : AluOut) : (s.putAtHL o).env = s.env := rfl
@[simp] theorem State.putAtHL_cfg (o : AluOut) : (s.putAtHL o).cfg = s.cfg := rfl

/-! ## `push16` -/

@[simp] theorem State.push16_a (v : Word) : (s.push16 v).a = s.a := rfl
@[simp] theorem State.push16_f (v : Word) : (s.push16 v).f = s.f := rfl
@[simp] theorem State.push16_b (v : Word) : (s.push16 v).b = s.b := rfl
@[simp] theorem State.push16_c (v : Word) : (s.push16 v).c = s.c := rfl
@[simp] theorem State.push16_d (v : Word) : (s.push16 v).d = s.d := rfl
@[simp] theorem State.push16_e (v : Word) : (s.push16 v).e = s.e := rfl
@[simp] theorem State.push16_h (v : Word) : (s.push16 v).h = s.h := rfl
@[simp] theorem State.push16_l (v : Word) : (s.push16 v).l = s.l := rfl
@[simp] theorem State.push16_sp (v : Word) : (s.push16 v).sp = s.sp - 1 - 1 := rfl
@[simp] theorem State.push16_pc (v : Word) : (s.push16 v).pc = s.pc := rfl
@[simp] theorem State.push16_ime (v : Word) : (s.push16 v).ime = s.ime := rfl
@[simp] theorem State.push16_eiPending (v : Word) : (s.push16 v).eiPending = s.eiPending := rfl
@[simp] theorem State.push16_haltBug (v : Word) : (s.push16 v).haltBug = s.haltBug := rfl
@[simp] theorem State.push16_mode (v : Word) : (s.push16 v).mode = s.mode := rfl
@[simp] theorem State.push16_m (v : Word) :
    (s.push16 v).m = (busOf s.cfg.bus).write ((busOf s.cfg.bus).write s.m (s.sp - 1) (hi v)) (s.sp - 1 - 1) (lo v) := rfl
@[simp] theorem State.push16_writes (v : Word) :
    (s.push16 v).writes = s.writes ++ [⟨s.sp - 1, s.peek (s.sp - 1), hi v⟩] ++
      [⟨s.sp - 1 - 1, (busOf s.cfg.bus).peek ((busOf s.cfg.bus).write s.m (s.sp - 1) (hi v)) (s.sp - 1 - 1), lo v⟩] := rfl
@[simp] theorem State.push16_result (v : Word) : (s.push16 v).result = s.result := rfl
@[simp] theorem State.push16_env (v : Word) : (s.push16 v).env = s.env := rfl
@[simp] theorem State.push16_cfg (v : Word) : (s.push16 v).cfg = s.cfg := rfl

/-! ## `pop16_state` -/

@[simp] theorem State.pop16_state_a : s.pop16.2.a = s.a := rfl
@[simp] theorem State.pop16_state_f : s.pop16.2.f = s.f := rfl
@[simp] theorem State.pop16_state_b : s.pop16.2.b = s.b := rfl
@[simp] theorem State.pop16_state_c : s.pop16.2.c = s.c := rfl
@[simp] theorem State.pop16_state_d : s.pop16.2.d = s.d := rfl
@[simp] theorem State.pop16_state_e : s.pop16.2.e = s.e := rfl
@[simp] theorem State.pop16_state_h : s.pop16.2.h = s.h := rfl
@[simp] theorem State.pop16_state_l : s.pop16.2.l = s.l := rfl
@[simp] theorem State.pop16_state_sp : s.pop16.2.sp = s.sp + 1 + 1 := rfl
@[simp] theorem State.pop16_state_pc : s.pop16.2.pc = s.pc := rfl
@[simp] theorem State.pop16_state_ime : s.pop16.2.ime = s.ime := rfl
@[simp] theorem State.pop16_state_eiPending : s.pop16.2.eiPending = s.eiPending := rfl
@[simp] theorem State.pop16_state_haltBug : s.pop16.2.haltBug = s.haltBug := rfl
@[simp] theorem State.pop16_state_mode : s.pop16.2.mode = s.mode := rfl
@[simp] theorem State.pop16_state_m :
    s.pop16.2.m = ((busOf s.cfg.bus).read ((busOf s.cfg.bus).read s.m s.sp).2 (s.sp + 1)).2 := rfl
@[simp] theorem State.pop16_state_writes : s.pop16.2.writes = s.writes := rfl
@[simp] theorem State.pop16_state_result : s.pop16.2.result = s.result := rfl
@[simp] theorem State.pop16_state_env : s.pop16.2.env = s.env := rfl
@[simp] theorem State.pop16_state_cfg : s.pop16.2.cfg = s.cfg := rfl

/-! ## `popPC` -/

@[simp] theorem State.popPC_a : s.popPC.a = s.a := rfl
@[simp] theorem State.popPC_f : s.popPC.f = s.f := rfl
@[simp] theorem State.popPC_b : s.popPC.b = s.b := rfl
@[simp] theorem State.popPC_c : s.popPC.c = s.c := rfl
@[simp] theorem State.popPC_d : s.popPC.d = s.d := rfl
@[simp] theorem State.popPC_e : s.popPC.e = s.e := rfl
@[simp] theorem State.popPC_h : s.popPC.h = s.h := rfl
@[simp] theorem State.popPC_l : s.popPC.l = s.l := rfl
@[simp] theorem State.popPC_sp : s.popPC.sp = s.sp + 1 + 1 := rfl
@[simp] theorem State.popPC_pc : s.popPC.pc = concat ((s.afterRead s.sp).readByte (s.sp + 1)) (s.readByte s.sp) := rfl
@[simp] theorem State.popPC_ime : s.popPC.ime = s.ime := rfl
@[simp] theorem State.popPC_eiPending : s.popPC.eiPending = s.eiPending := rfl
@[simp] theorem State.popPC_haltBug : s.popPC.haltBug = s.haltBug := rfl
@[simp] theorem State.popPC_mode : s.popPC.mode = s.mode := rfl
@[simp] theorem State.popPC_m :
    s.popPC.m = ((busOf s.cfg.bus).read ((busOf s.cfg.bus).read s.m s.sp).2 (s.sp + 1)).2 := rfl
@[simp] theorem State.popPC_writes : s.popPC.writes = s.writes := rfl
@[simp] theorem State.popPC_result : s.popPC.result = s.result := rfl
@[simp] theorem State.popPC_env : s.popPC.env = s.env := rfl
@[simp] theorem State.popPC_cfg : s.popPC.cfg = s.cfg := rfl

/-! ## `call` -/

@[simp] theorem State.call_a (x : Word) : (s.call x).a = s.a := rfl
@[simp] theorem State.call_f (x : Word) : (s.call x).f = s.f := rfl
@[simp] theorem State.call_b (x : Word) : (s.call x).b = s.b := rfl
@[simp] theorem State.call_c (x : Word) : (s.call x).c = s.c := rfl
@[simp] theorem State.call_d (x : Word) : (s.call x).d = s.d := rfl
@[simp] theorem State.call_e (x : Word) : (s.call x).e = s.e := rfl
@[simp] theorem State.call_h (x : Word) : (s.call x).h = s.h := rfl
@[simp] theorem State.call_l (x : Word) : (s.call x).l = s.l := rfl
@[simp] theorem State.call_sp (x : Word) : (s.call x).sp = s.sp - 1 - 1 := rfl
@[simp] theorem State.call_pc (x : Word) : (s.call x).pc = x := rfl
@[simp] theorem State.call_ime (x : Word) : (s.call x).ime = s.ime := rfl
@[simp] theorem State.call_eiPending (x : Word) : (s.call x).eiPending = s.eiPending := rfl
@[simp] theorem State.call_haltBug (x : Word) : (s.call x).haltBug = s.haltBug := rfl
@[simp] theorem State.call_mode (x : Word) : (s.call x).mode = s.mode := rfl
@[simp] theorem State.call_m (x : Word) : (s.call x).m = (s.push16 s.pc).m := rfl
@[simp] theorem State.call_writes (x : Word) : (s.call x).writes = (s.push16 s.pc).writes := rfl
@[simp] theorem State.call_result (x : Word) : (s.call x).result = s.result := rfl
@[simp] theorem State.call_env (x : Word) : (s.call x).env = s.env := rfl
@[simp] theorem State.call_cfg (x : Word) : (s.call x).cfg = s.cfg := rfl

/-! ## `interruptEntry` -/

@[simp] theorem State.interruptEntry_a (k : Irq) : (s.interruptEntry k).a = s.a := rfl
@[simp] theorem State.interruptEntry_f (k : Irq) : (s.interruptEntry k).f = s.f := rfl
@[simp] theorem State.interruptEntry_b (k : Irq) : (s.interruptEntry k).b = s.b := rfl
@[simp] theorem State.interruptEntry_c (k : Irq) : (s.interruptEntry k).c = s.c := rfl
@[simp] theorem State.interruptEntry_d (k : Irq) : (s.interruptEntry k).d = s.d := rfl
@[simp] theorem State.interruptEntry_e (k : Irq) : (s.interruptEntry k).e = s.e := rfl
@[simp] theorem State.interruptEntry_h (k : Irq) : (s.interruptEntry k).h = s.h := rfl
@[simp] theorem State.interruptEntry_l (k : Irq) : (s.interruptEntry k).l = s.l := rfl
@[simp] theorem State.interruptEntry_sp (k : Irq) : (s.interruptEntry k).sp = s.sp - 1 - 1 := rfl
@[simp] theorem State.interruptEntry_pc (k : Irq) : (s.interruptEntry k).pc = k.vector := rfl
@[simp] theorem State.interruptEntry_ime (k : Irq) : (s.interruptEntry k).ime = false := rfl
@[simp] theorem State.interruptEntry_eiPending (k : Irq) : (s.interruptEntry k).eiPending = false := rfl
@[simp] theorem State.interruptEntry_haltBug (k : Irq) : (s.interruptEntry k).haltBug = s.haltBug := rfl
@[simp] theorem State.interruptEntry_mode (k : Irq) : (s.interruptEntry k).mode = s.mode := rfl
@[simp] theorem State.interruptEntry_m (k : Irq) :
    (s.interruptEntry k).m = (busOf s.cfg.bus).write (s.push16 s.pc).m ifAddr
      ((s.push16 s.pc).peek ifAddr &&& ~~~((1 : Byte) <<< k.bit)) := rfl
@[simp] theorem State.interruptEntry_writes (k : Irq) :
    (s.interruptEntry k).writes = (s.push16 s.pc).writes ++
      [⟨ifAddr, (s.push16 s.pc).peek ifAddr, (s.push16 s.pc).peek ifAddr &&& ~~~((1 : Byte) <<< k.bit)⟩] := rfl
@[simp] theorem State.interruptEntry_result (k : Irq) : (s.interruptEntry k).result = s.result := rfl
@[simp] theorem State.interruptEntry_env (k : Irq) : (s.interruptEntry k).env = s.env := rfl
@[simp] theorem State.interruptEntry_cfg (k : Irq) : (s.interruptEntry k).cfg = s.cfg := rfl

/-! ## `interruptReturn` -/

@[simp] theorem State.interruptReturn_a : s.interruptReturn.a = s.a := rfl
@[simp] theorem State.interruptReturn_f : s.interruptReturn.f = s.f := rfl
@[simp] theorem State.interruptReturn_b : s.interruptReturn.b = s.b := rfl
@[simp] theorem State.interruptReturn_c : s.interruptReturn.c = s.c := rfl
@[simp] theorem State.interruptReturn_d : s.interruptReturn.d = s.d := rfl
@[simp] theorem State.interruptReturn_e : s.interruptReturn.e = s.e := rfl
@[simp] theorem State.interruptReturn_h : s.interruptReturn.h = s.h := rfl
@[simp] theorem State.interruptReturn_l : s.interruptReturn.l = s.l := rfl
@[simp] theorem State.interruptReturn_sp : s.interruptReturn.sp = s.sp + 1 + 1 := rfl
@[simp] theorem State.interruptReturn_pc : s.interruptReturn.pc = s.popPC.pc := rfl
@[simp] theorem State.interruptReturn_ime : s.interruptReturn.ime = true := rfl
@[simp] theorem State.interruptReturn_eiPending : s.interruptReturn.eiPending = s.eiPending := rfl
@[simp] theorem State.interruptReturn_haltBug : s.interruptReturn.haltBug = s.haltBug := rfl
@[simp] theorem State.interruptReturn_mode : s.interruptReturn.mode = s.mode := rfl
@[simp] theorem State.interruptReturn_m : s.interruptReturn.m = s.popPC.m := rfl
@[simp] theorem State.interruptReturn_writes : s.interruptReturn.writes = s.writes := rfl
@[simp] theorem State.interruptReturn_result : s.interruptReturn.result = s.result := rfl
@[simp] theorem State.interruptReturn_env : s.interruptReturn.env = s.env := rfl
@[simp] theorem State.interruptReturn_cfg : s.interruptReturn.cfg = s.cfg := rfl

/-! ## `clearEvents` -/

@[simp] theorem State.clearEvents_a : s.clearEvents.a = s.a := rfl
@[simp] theorem State.clearEvents_f : s.clearEvents.f = s.f := rfl
@[simp] theorem State.clearEvents_b : s.clearEvents.b = s.b := rfl
@[simp] theorem State.clearEvents_c : s.clearEvents.c = s.c := rfl
@[simp] theorem State.clearEvents_d : s.clearEvents.d = s.d := rfl
@[simp] theorem State.clearEvents_e : s.clearEvents.e = s.e := rfl
@[simp] theorem State.clearEvents_h : s.clearEvents.h = s.h := rfl
@[simp] theorem State.clearEvents_l : s.clearEvents.l = s.l := rfl
@[simp] theorem State.clearEvents_sp : s.clearEvents.sp = s.sp := rfl
@[simp] theorem State.clearEvents_pc : s.clearEvents.pc = s.pc := rfl
@[simp] theorem State.clearEvents_ime : s.clearEvents.ime = s.ime := rfl
@[simp] theorem State.clearEvents_eiPending : s.clearEvents.eiPending = s.eiPending := rfl
@[simp] theorem State.clearEvents_haltBug : s.clearEvents.haltBug = s.haltBug := rfl
@[simp] theorem State.clearEvents_mode : s.clearEvents.mode = s.mode := rfl
@[simp] theorem State.clearEvents_m : s.clearEvents.m = s.m := rfl
@[simp] theorem State.clearEvents_writes : s.clearEvents.writes = [] := rfl
@[simp] theorem State.clearEvents_result : s.clearEvents.result = s.result := rfl
@[simp] theorem State.clearEvents_env : s.clearEvents.env = s.env := rfl
@[simp] theorem State.clearEvents_cfg : s.clearEvents.cfg = s.cfg := rfl

/-! ## `enter` -/

@[simp] theorem State.enter_a (n : Nat) : (s.enter n).a = s.a := rfl
@[simp] theorem State.enter_f (n : Nat) : (s.enter n).f = s.f := rfl
@[simp] theorem State.enter_b (n : Nat) : (s.enter n).b = s.b := rfl
@[simp] theorem State.enter_c (n : Nat) : (s.enter n).c = s.c := rfl
@[simp] theorem State.enter_d (n : Nat) : (s.enter n).d = s.d := rfl
@[simp] theorem State.enter_e (n : Nat) : (s.enter n).e = s.e := rfl
@[simp] theorem State.enter_h (n : Nat) : (s.enter n).h = s.h := rfl
@[simp] theorem State.enter_l (n : Nat) : (s.enter n).l = s.l := rfl
@[simp] theorem State.enter_sp (n : Nat) : (s.enter n).sp = s.sp := rfl
@[simp] theorem State.enter_pc (n : Nat) : (s.enter n).pc = s.afterFirst + BitVec.ofNat 16 (n - 1) := rfl
@[simp] theorem State.enter_ime (n : Nat) : (s.enter n).ime = (s.ime || s.eiPending) := rfl
@[simp] theorem State.enter_eiPending (n : Nat) : (s.enter n).eiPending = false := rfl
@[simp] theorem State.enter_haltBug (n : Nat) : (s.enter n).haltBug = false := rfl
@[simp] theorem State.enter_mode (n : Nat) : (s.enter n).mode = s.mode := rfl
@[simp] theorem State.enter_m (n : Nat) : (s.enter n).m = s.m := rfl
@[simp] theorem State.enter_writes (n : Nat) : (s.enter n).writes = s.writes := rfl
@[simp] theorem State.enter_result (n : Nat) : (s.enter n).result = some .executed := rfl
@[simp] theorem State.enter_env (n : Nat) : (s.enter n).env = s.env := rfl
@[simp] theorem State.enter_cfg (n : Nat) : (s.enter n).cfg = s.cfg := rfl

/-! ## `setReg`: by the register -/

@[simp] theorem State.reg_setReg (r q : Reg8) (v : Byte) : (s.setReg r v).reg q = if q = r then v else s.reg q := by
  cases r <;> cases q <;> rfl
@[simp] theorem State.setReg_a (r : Reg8) (v : Byte) : (s.setReg r v).a = if r = .a then v else s.a := by
  cases r <;> rfl
@[simp] theorem State.setReg_f (r : Reg8) (v : Byte) : (s.setReg r v).f = s.f := by cases r <;> rfl
@[simp] theorem State.setReg_b (r : Reg8) (v : Byte) : (s.setReg r v).b = if r = .b then v else s.b := by
  cases r <;> rfl
@[simp] theorem State.setReg_c (r : Reg8) (v : Byte) : (s.setReg r v).c = if r = .c then v else s.c := by
  cases r <;> rfl
@[simp] theorem State.setReg_d (r : Reg8) (v : Byte) : (s.setReg r v).d = if r = .d then v else s.d := by
  cases r <;> rfl
@[simp] theorem State.setReg_e (r : Reg8) (v : Byte) : (s.setReg r v).e = if r = .e then v else s.e := by
  cases r <;> rfl
@[simp] theorem State.setReg_h (r : Reg8) (v : Byte) : (s.setReg r v).h = if r = .h then v else s.h := by
  cases r <;> rfl
@[simp] theorem State.setReg_l (r : Reg8) (v : Byte) : (s.setReg r v).l = if r = .l then v else s.l := by
  cases r <;> rfl
@[simp] theorem State.setReg_sp (r : Reg8) (v : Byte) : (s.setReg r v).sp = s.sp := by cases r <;> rfl
@[simp] theorem State.setReg_pc (r : Reg8) (v : Byte) : (s.setReg r v).pc = s.pc := by cases r <;> rfl
@[simp] theorem State.setReg_ime (r : Reg8) (v : Byte) : (s.setReg r v).ime = s.ime := by cases r <;> rfl
@[simp] theorem State.setReg_eiPending (r : Reg8) (v : Byte) : (s.setReg r v).eiPending = s.eiPending := by cases r <;> rfl
@[simp] theorem State.setReg_haltBug (r : Reg8) (v : Byte) : (s.setReg r v).haltBug = s.haltBug := by cases r <;> rfl
@[simp] theorem State.setReg_mode (r : Reg8) (v : Byte) : (s.setReg r v).mode = s.mode := by cases r <;> rfl
@[simp] theorem State.setReg_m (r : Reg8) (v : Byte) : (s.setReg r v).m = s.m := by cases r <;> rfl
@[simp] theorem State.setReg_writes (r : Reg8) (v : Byte) : (s.setReg r v).writes = s.writes := by cases r <;> rfl
@[simp] theorem State.setReg_result (r : Reg8) (v : Byte) : (s.setReg r v).result = s.result := by cases r <;> rfl
@[simp] theorem State.setReg_env (r : Reg8) (v : Byte) : (s.setReg r v).env = s.env := by cases r <;> rfl
@[simp] theorem State.setReg_cfg (r : Reg8) (v : Byte) : (s.setReg r v).cfg = s.cfg := by cases r <;> rfl

/-! ## `putReg` -/

@[simp] theorem State.reg_putReg (r q : Reg8) (o : AluOut) : (s.putReg r o).reg q = if q = r then o.res else s.reg q := by
  cases r <;> cases q <;> rfl
@[simp] theorem State.putReg_a (r : Reg8) (o : AluOut) : (s.putReg r o).a = if r = .a then o.res else s.a := by
  cases r <;> rfl
@[simp] theorem State.putReg_f (r : Reg8) (o : AluOut) : (s.putReg r o).f = Flags.write s.f o.z o.n o.h o.c := by
  cases r <;> rfl
@[simp] theorem State.putReg_b (r : Reg8) (o : AluOut) : (s.putReg r o).b = if r = .b then o.res else s.b := by
  cases r <;> rfl
@[simp] theorem State.putReg_c (r : Reg8) (o : AluOut) : (s.putReg r o).c = if r = .c then o.res else s.c := by
  cases r <;> rfl
@[simp] theorem State.putReg_d (r : Reg8) (o : AluOut) : (s.putReg r o).d = if r = .d then o.res else s.d := by
  cases r <;> rfl
@[simp] theorem State.putReg_e (r : Reg8) (o : AluOut) : (s.putReg r o).e = if r = .e then o.res else s.e := by
  cases r <;> rfl
@[simp] theorem State.putReg_h (r : Reg8) (o : AluOut) : (s.putReg r o).h = if r = .h then o.res else s.h := by
  cases r <;> rfl
@[simp] theorem State.putReg_l (r : Reg8) (o : AluOut) : (s.putReg r o).l = if r = .l then o.res else s.l := by
  cases r <;> rfl
@[simp] theorem State.putReg_sp (r : Reg8) (o : AluOut) : (s.putReg r o).sp = s.sp := by
  cases r <;> rfl
@[simp] theorem State.putReg_pc (r : Reg8) (o : AluOut) : (s.putReg r o).pc = s.pc := by
  cases r <;> rfl
@[simp] theorem State.putReg_ime (r : Reg8) (o : AluOut) : (s.putReg r o).ime = s.ime := by
  cases r <;> rfl
@[simp] theorem State.putReg_eiPending (r : Reg8) (o : AluOut) : (s.putReg r o).eiPending = s.eiPending := by
  cases r <;> rfl
@[simp] theorem State.putReg_haltBug (r : Reg8) (o : AluOut) : (s.putReg r o).haltBug = s.haltBug := by
  cases r <;> rfl
@[simp] theorem State.putReg_mode (r : Reg8) (o : AluOut) : (s.putReg r o).mode = s.mode := by
  cases r <;> rfl
@[simp] theorem State.putReg_m (r : Reg8) (o : AluOut) : (s.putReg r o).m = s.m := by
  cases r <;> rfl
@[simp] theorem State.putReg_writes (r : Reg8) (o : AluOut) : (s.putReg r o).writes = s.writes := by
  cases r <;> rfl
@[simp] theorem State.putReg_result (r : Reg8) (o : AluOut) : (s.putReg r o).result = s.result := by
  cases r <;> rfl
@[simp] theorem State.putReg_env (r : Reg8) (o : AluOut) : (s.putReg r o).env = s.env := by
  cases r <;> rfl
@[simp] theorem State.putReg_cfg (r : Reg8) (o : AluOut) : (s.putReg r o).cfg = s.cfg := by
  cases r <;> rfl

/-! ## `setR16` -/

@[simp] theorem State.setR16_a (p : R16) (v : Word) : (s.setR16 p v).a = s.a := by
  cases p <;> rfl
@[simp] theorem State.setR16_f (p : R16) (v : Word) : (s.setR16 p v).f = s.f := by
  cases p <;> rfl
@[simp] theorem State.setR16_b (p : R16) (v : Word) : (s.setR16 p v).b = if p = .bc then hi v else s.b := by
  cases p <;> rfl
@[simp] theorem State.setR16_c (p : R16) (v : Word) : (s.setR16 p v).c = if p = .bc then lo v else s.c := by
  cases p <;> rfl
@[simp] theorem State.setR16_d (p : R16) (v : Word) : (s.setR16 p v).d = if p = .de then hi v else s.d := by
  cases p <;> rfl
@[simp] theorem State.setR16_e (p : R16) (v : Word) : (s.setR16 p v).e = if p = .de then lo v else s.e := by
  cases p <;> rfl
@[simp] theorem State.setR16_h (p : R16) (v : Word) : (s.setR16 p v).h = if p = .hl then hi v else s.h := by
  cases p <;> rfl
@[simp] theorem State.setR16_l (p : R16) (v : Word) : (s.setR16 p v).l = if p = .hl then lo v else s.l := by
  cases p <;> rfl
@[simp] theorem State.setR16_sp (p : R16) (v : Word) : (s.setR16 p v).sp = if p = .sp then v else s.sp := by
  cases p <;> rfl
@[simp] theorem State.setR16_pc (p : R16) (v : Word) : (s.setR16 p v).pc = s.pc := by
  cases p <;> rfl
@[simp] theorem State.setR16_ime (p : R16) (v : Word) : (s.setR16 p v).ime = s.ime := by
  cases p <;> rfl
@[simp] theorem State.setR16_eiPending (p : R16) (v : Word) : (s.setR16 p v).eiPending = s.eiPending := by
  cases p <;> rfl
@[simp] theorem State.setR16_haltBug (p : R16) (v : Word) : (s.setR16 p v).haltBug = s.haltBug := by
  cases p <;> rfl
@[simp] theorem State.setR16_mode (p : R16) (v : Word) : (s.setR16 p v).mode = s.mode := by
  cases p <;> rfl
@[simp] theorem State.setR16_m (p : R16) (v : Word) : (s.setR16 p v).m = s.m := by
  cases p <;> rfl
@[simp] theorem State.setR16_writes (p : R16) (v : Word) : (s.setR16 p v).writes = s.writes := by
  cases p <;> rfl
@[simp] theorem State.setR16_result (p : R16) (v : Word) : (s.setR16 p v).result = s.result := by
  cases p <;> rfl
@[simp] theorem State.setR16_env (p : R16) (v : Word) : (s.setR16 p v).env = s.env := by
  cases p <;> rfl
@[simp] theorem State.setR16_cfg (p : R16) (v : Word) : (s.setR16 p v).cfg = s.cfg := by
  cases p <;> rfl

/-! ## `setR16Stk` -/

@[simp] theorem State.setR16Stk_a (p : R16Stk) (v : Word) : (s.setR16Stk p v).a = s.a := by
  cases p <;> rfl
@[simp] theorem State.setR16Stk_f (p : R16Stk) (v : Word) : (s.setR16Stk p v).f = s.f := by
  cases p <;> rfl
@[simp] theorem State.setR16Stk_b (p : R16Stk) (v : Word) : (s.setR16Stk p v).b = if p = .bc then hi v else s.b := by
  cases p <;> rfl
@[simp] theorem State.setR16Stk_c (p : R16Stk) (v : Word) : (s.setR16Stk p v).c = if p = .bc then lo v else s.c := by
  cases p <;> rfl
@[simp] theorem State.setR16Stk_d (p : R16Stk) (v : Word) : (s.setR16Stk p v).d = if p = .de then hi v else s.d := by
  cases p <;> rfl
@[simp] theorem State.setR16Stk_e (p : R16Stk) (v : Word) : (s.setR16Stk p v).e = if p = .de then lo v else s.e := by
  cases p <;> rfl
@[simp] theorem State.setR16Stk_h (p : R16Stk) (v : Word) : (s.setR16Stk p v).h = if p = .hl then hi v else s.h := by
  cases p <;> rfl
@[simp] theorem State.setR16Stk_l (p : R16Stk) (v : Word) : (s.setR16Stk p v).l = if p = .hl then lo v else s.l := by
  cases p <;> rfl
@[simp] theorem State.setR16Stk_sp (p : R16Stk) (v : Word) : (s.setR16Stk p v).sp = s.sp := by
  cases p <;> rfl
@[simp] theorem State.setR16Stk_pc (p : R16Stk) (v : Word) : (s.setR16Stk p v).pc = s.pc := by
  cases p <;> rfl
@[simp] theorem State.setR16Stk_ime (p : R16Stk) (v : Word) : (s.setR16Stk p v).ime = s.ime := by
  cases p <;> rfl
@[simp] theorem State.setR16Stk_eiPending (p : R16Stk) (v : Word) : (s.setR16Stk p v).eiPending = s.eiPending := by
  cases p <;> rfl
@[simp] theorem State.setR16Stk_haltBug (p : R16Stk) (v : Word) : (s.setR16Stk p v).haltBug = s.haltBug := by
  cases p <;> rfl
@[simp] theorem State.setR16Stk_mode (p : R16Stk) (v : Word) : (s.setR16Stk p v).mode = s.mode := by
  cases p <;> rfl
@[simp] theorem State.setR16Stk_m (p : R16Stk) (v : Word) : (s.setR16Stk p v).m = s.m := by
  cases p <;> rfl
@[simp] theorem State.setR16Stk_writes (p : R16Stk) (v : Word) : (s.setR16Stk p v).writes = s.writes := by
  cases p <;> rfl
@[simp] theorem State.setR16Stk_result (p : R16Stk) (v : Word) : (s.setR16Stk p v).result = s.result := by
  cases p <;> rfl
@[simp] theorem State.setR16Stk_env (p : R16Stk) (v : Word) : (s.setR16Stk p v).env = s.env := by
  cases p <;> rfl
@[simp] theorem State.setR16Stk_cfg (p : R16Stk) (v : Word) : (s.setR16Stk p v).cfg = s.cfg := by
  cases p <;> rfl

end Sys2Proof.Machine
end

