-- ==== Sys2Proof/Laws/Exec.lean ====
section
/-! SUPPORT. What an instruction can do to the state besides its registers, said once: `exec_plain` for all
instructions but five, and `exec_effect` for all. Proofs of invariants and of whole-machine rules cite them instead of
unfolding the 500 arms. -/

namespace Sys2Proof.Machine

/-- The bus state and the event list after transactions, in order: a store emits one event with the byte peeked just
before it (20_memory.md R57, R64). -/
def transact (B : Bus) : List Access → BusState × List MemoryWrite → BusState × List MemoryWrite
  | [], x => x
  | .read a :: l, (m, ws) => transact B l ((B.read m a).2, ws)
  | .write a v :: l, (m, ws) => transact B l (B.write m a v, ws ++ [⟨a, B.peek m a, v⟩])

/-- How many of the transactions are stores. -/
def storeCount : List Access → Nat
  | [] => 0
  | .read _ :: l => storeCount l
  | .write _ _ :: l => storeCount l + 1

/-- The bus state is that of the transactions. -/
theorem transact_fst (B : Bus) (l : List Access) (m : BusState) (ws : List MemoryWrite) :
    (transact B l (m, ws)).1 = B.after l m := by
  induction l generalizing m ws with
  | nil => rfl
  | cons x l ih => cases x <;> exact ih _ _

/-- As many events as stores. -/
theorem transact_length (B : Bus) (l : List Access) (m : BusState) (ws : List MemoryWrite) :
    (transact B l (m, ws)).2.length = ws.length + storeCount l := by
  induction l generalizing m ws with
  | nil => rfl
  | cons x l ih =>
    cases x with
    | read a => exact ih _ _
    | write a v => rw [transact, ih]; simp [storeCount]; omega

/-- What every instruction but `DI`, `EI`, `RETI`, `HALT` and `STOP` leaves: the control state, the launch parameters,
the environment and the step's marker stay; F's low bits stay zero; the bus state changes by transactions, two stores at
most, each with its event. -/
structure Plain (s t : State) : Prop where
  ime : t.ime = s.ime
  eiPending : t.eiPending = s.eiPending
  haltBug : t.haltBug = s.haltBug
  mode : t.mode = s.mode
  result : t.result = s.result
  env : t.env = s.env
  cfg : t.cfg = s.cfg
  flagsLow : s.f &&& 0x0F = 0 → t.f &&& 0x0F = 0
  accesses : ∃ l : List Access, storeCount l ≤ 2 ∧
    (t.m, t.writes) = transact (busOf s.cfg.bus) l (s.m, s.writes)

/-- A meaning answers a next state, and it is plain. -/
def RunsPlain (s : State) (r : Result) : Prop := ∃ t, r = .next t ∧ Plain s t

/-- The five instructions that are not plain. -/
def isControl : Instr → Bool
  | .di | .ei | .reti | .halt | .stop _ => true
  | _ => false

/-! ## The shared operations are plain -/

theorem Plain.refl (s : State) : Plain s s :=
  ⟨rfl, rfl, rfl, rfl, rfl, rfl, rfl, id, [], by simp [storeCount], rfl⟩

/-- Changes to the registers, SP and PC compose with a plain change before them. -/
theorem Plain.trans_registers {s t u : State} (h : Plain s t) (hi : u.ime = t.ime) (he : u.eiPending = t.eiPending)
    (hh : u.haltBug = t.haltBug) (hm : u.mode = t.mode) (hr : u.result = t.result) (hn : u.env = t.env)
    (hc : u.cfg = t.cfg) (hf : t.f &&& 0x0F = 0 → u.f &&& 0x0F = 0) (hM : u.m = t.m)
    (hw : u.writes = t.writes) : Plain s u := by
  obtain ⟨l, hl, hs⟩ := h.accesses
  exact ⟨hi.trans h.ime, he.trans h.eiPending, hh.trans h.haltBug, hm.trans h.mode, hr.trans h.result,
    hn.trans h.env, hc.trans h.cfg, fun h0 => hf (h.flagsLow h0), l, hl, by rw [hM, hw, hs]⟩

/-- A read before a plain change. -/
theorem Plain.of_afterRead {s t : State} (a : Word) (p : Plain (s.afterRead a) t) : Plain s t := by
  obtain ⟨l, hl, hs⟩ := p.accesses
  exact ⟨p.ime, p.eiPending, p.haltBug, p.mode, p.result, p.env, p.cfg, p.flagsLow, .read a :: l, hl, hs⟩

theorem RunsPlain.of_afterRead {s : State} {r : Result} (a : Word) (h : RunsPlain (s.afterRead a) r) :
    RunsPlain s r := by
  obtain ⟨t, ht, hp⟩ := h
  exact ⟨t, ht, hp.of_afterRead a⟩

/-- A flag write after a plain change is plain. -/
theorem Plain.setFlags {s t : State} (p : Plain s t) (z n h c : Bool) : Plain s (t.setFlags z n h c) :=
  p.trans_registers rfl rfl rfl rfl rfl rfl rfl (fun h0 => (Flags.low_write _ _ _ _ _).trans h0) rfl rfl

theorem plain_memWrite (s : State) (a : Word) (v : Byte) : Plain s (s.memWrite a v) :=
  ⟨rfl, rfl, rfl, rfl, rfl, rfl, rfl, id, [.write a v], by simp [storeCount], rfl⟩

theorem plain_memWrite16 (s : State) (a v : Word) : Plain s (s.memWrite16 a v) :=
  ⟨rfl, rfl, rfl, rfl, rfl, rfl, rfl, id, [.write a (lo v), .write (a + 1) (hi v)], by simp [storeCount],
    rfl⟩

theorem plain_push16 (s : State) (v : Word) : Plain s (s.push16 v) :=
  ⟨rfl, rfl, rfl, rfl, rfl, rfl, rfl, id, [.write (s.sp - 1) (hi v), .write (s.sp - 1 - 1) (lo v)],
    by simp [storeCount], rfl⟩

theorem plain_call (s : State) (x : Word) : Plain s (s.call x) :=
  (plain_push16 s s.pc).trans_registers rfl rfl rfl rfl rfl rfl rfl id rfl rfl

theorem plain_setPc (s : State) (x : Word) : Plain s { s with pc := x } :=
  (Plain.refl s).trans_registers rfl rfl rfl rfl rfl rfl rfl id rfl rfl

theorem plain_pop16 (s : State) : Plain s s.pop16.2 :=
  ⟨rfl, rfl, rfl, rfl, rfl, rfl, rfl, id, [.read s.sp, .read (s.sp + 1)], by simp [storeCount], rfl⟩

theorem plain_popPC (s : State) : Plain s s.popPC :=
  (plain_pop16 s).trans_registers rfl rfl rfl rfl rfl rfl rfl id rfl rfl

theorem plain_setReg (s : State) (r : Reg8) (v : Byte) : Plain s (s.setReg r v) := by
  cases r <;> exact (Plain.refl s).trans_registers rfl rfl rfl rfl rfl rfl rfl id rfl rfl

theorem plain_setR16 (s : State) (p : R16) (v : Word) : Plain s (s.setR16 p v) := by
  cases p <;> exact (Plain.refl s).trans_registers rfl rfl rfl rfl rfl rfl rfl id rfl rfl

theorem plain_popR16 (s : State) (p : R16Stk) (v : Word) : Plain s (s.pop16.2.setR16Stk p v) := by
  cases p <;> exact (plain_pop16 s).trans_registers rfl rfl rfl rfl rfl rfl rfl id rfl rfl

theorem plain_popAF (s : State) (v : Word) : Plain s (s.pop16.2.setAF v) :=
  (plain_pop16 s).trans_registers rfl rfl rfl rfl rfl rfl rfl (fun _ => and_F0_low _) rfl rfl

theorem plain_setFlags (s : State) (z n h c : Bool) : Plain s (s.setFlags z n h c) := (Plain.refl s).setFlags z n h c

theorem plain_putFlags (s : State) (o : AluOut) : Plain s (s.putFlags o) := plain_setFlags s _ _ _ _

theorem plain_putReg (s : State) (r : Reg8) (o : AluOut) : Plain s (s.putReg r o) :=
  (plain_setReg s r o.res).setFlags _ _ _ _

theorem plain_putAtHL (s : State) (o : AluOut) : Plain s (s.putAtHL o) := (plain_memWrite s s.hl o.res).setFlags _ _ _ _

theorem plain_setHL_setFlags (s : State) (v : Word) (z n h c : Bool) : Plain s ((s.setHL v).setFlags z n h c) :=
  (plain_setR16 s .hl v).setFlags z n h c

theorem plain_setSP_setFlags (s : State) (v : Word) (z n h c : Bool) :
    Plain s ({ s with sp := v }.setFlags z n h c) := (plain_setR16 s .sp v).setFlags z n h c

theorem plain_setA_setFlags (s : State) (v : Byte) (z n h c : Bool) :
    Plain s ({ s with a := v }.setFlags z n h c) := (plain_setReg s .a v).setFlags z n h c

theorem plain_load (s : State) (x : Word) (r : Reg8) (v : Byte) : Plain s ((s.afterRead x).setReg r v) :=
  (plain_setReg (s.afterRead x) r v).of_afterRead x

theorem plain_loadMoveHL (s : State) (v : Byte) (x : Word) : Plain s ({ s.afterHL with a := v }.setHL x) :=
  (plain_load s s.hl .a v).trans_registers rfl rfl rfl rfl rfl rfl rfl id rfl rfl

/-- A read at HL and then one store there, with the flags. -/
theorem plain_putAtHL_afterHL (s : State) (o : AluOut) : Plain s (s.afterHL.putAtHL o) :=
  (plain_putAtHL s.afterHL o).of_afterRead s.hl

/-- A read at HL and then one store. -/
theorem plain_memWrite_afterHL (s : State) (a : Word) (v : Byte) : Plain s (s.afterHL.memWrite a v) :=
  (plain_memWrite s.afterHL a v).of_afterRead s.hl

theorem plain_storeMoveHL (s : State) (a : Word) (v : Byte) (x : Word) : Plain s ((s.memWrite a v).setHL x) :=
  (plain_memWrite s a v).trans_registers rfl rfl rfl rfl rfl rfl rfl id rfl rfl

theorem plain_ite (s : State) (c : Prop) [Decidable c] {t : State} (h : Plain s t) : Plain s (if c then t else s) := by
  split
  · exact h
  · exact Plain.refl s

theorem runsPlain_alu (op : AluOp) (b : Byte) (s : State) : RunsPlain s (alu op b s) := by
  cases op <;> first | exact ⟨_, rfl, plain_putFlags _ _⟩ | exact ⟨_, rfl, plain_putReg _ _ _⟩

/-! ## One lemma for each shared shape of instruction -/

theorem runsPlain_ldR8R8 (dst src : Reg8) (s : State) : RunsPlain s (ldR8R8 dst src s) :=
  ⟨_, rfl, plain_setReg _ _ _⟩
theorem runsPlain_ldR8N8 (dst : Reg8) (n : Byte) (s : State) : RunsPlain s (ldR8N8 dst n s) :=
  ⟨_, rfl, plain_setReg _ _ _⟩
theorem runsPlain_ldR8AtHL (dst : Reg8) (s : State) : RunsPlain s (ldR8AtHL dst s) :=
  ⟨_, rfl, plain_load s s.hl _ _⟩
theorem runsPlain_ldAtHLR8 (src : Reg8) (s : State) : RunsPlain s (ldAtHLR8 src s) :=
  ⟨_, rfl, plain_memWrite _ _ _⟩
theorem runsPlain_ldAAtPtr (p : R16Ptr) (s : State) : RunsPlain s (ldAAtPtr p s) :=
  ⟨_, rfl, plain_load s _ .a _⟩
theorem runsPlain_ldAtPtrA (p : R16Ptr) (s : State) : RunsPlain s (ldAtPtrA p s) :=
  ⟨_, rfl, plain_memWrite _ _ _⟩
theorem runsPlain_ldR16N16 (p : R16) (n : Word) (s : State) : RunsPlain s (ldR16N16 p n s) :=
  ⟨_, rfl, plain_setR16 _ _ _⟩
theorem runsPlain_pushR16 (p : R16Stk) (s : State) : RunsPlain s (pushR16 p s) :=
  ⟨_, rfl, plain_push16 _ _⟩
theorem runsPlain_popR16 (p : R16Stk) (s : State) : RunsPlain s (popR16 p s) :=
  ⟨_, rfl, plain_popR16 _ _ _⟩
theorem runsPlain_aluR8 (op : AluOp) (r : Reg8) (s : State) : RunsPlain s (aluR8 op r s) :=
  runsPlain_alu op (s.reg r) s
theorem runsPlain_aluAtHL (op : AluOp) (s : State) : RunsPlain s (aluAtHL op s) :=
  (runsPlain_alu op s.atHL s.afterHL).of_afterRead s.hl
theorem runsPlain_aluN8 (op : AluOp) (n : Byte) (s : State) : RunsPlain s (aluN8 op n s) :=
  runsPlain_alu op n s
theorem runsPlain_incR8 (r : Reg8) (s : State) : RunsPlain s (incR8 r s) :=
  ⟨_, rfl, plain_putReg _ _ _⟩
theorem runsPlain_decR8 (r : Reg8) (s : State) : RunsPlain s (decR8 r s) :=
  ⟨_, rfl, plain_putReg _ _ _⟩
theorem runsPlain_addHLR16 (p : R16) (s : State) : RunsPlain s (addHLR16 p s) :=
  ⟨_, rfl, plain_setHL_setFlags _ _ _ _ _ _⟩
theorem runsPlain_incR16 (p : R16) (s : State) : RunsPlain s (incR16 p s) :=
  ⟨_, rfl, plain_setR16 _ _ _⟩
theorem runsPlain_decR16 (p : R16) (s : State) : RunsPlain s (decR16 p s) :=
  ⟨_, rfl, plain_setR16 _ _ _⟩
theorem runsPlain_rotateA (op : ShiftOp) (s : State) : RunsPlain s (rotateA op s) :=
  ⟨_, rfl, plain_putReg _ _ _⟩
theorem runsPlain_shiftR8 (op : ShiftOp) (r : Reg8) (s : State) : RunsPlain s (shiftR8 op r s) :=
  ⟨_, rfl, plain_putReg _ _ _⟩
theorem runsPlain_shiftAtHL (op : ShiftOp) (s : State) : RunsPlain s (shiftAtHL op s) :=
  ⟨_, rfl, plain_putAtHL_afterHL _ _⟩
theorem runsPlain_bitR8 (u : Bit3) (r : Reg8) (s : State) : RunsPlain s (bitR8 u r s) :=
  ⟨_, rfl, plain_setFlags _ _ _ _ _⟩
theorem runsPlain_bitAtHL (u : Bit3) (s : State) : RunsPlain s (bitAtHL u s) :=
  ⟨_, rfl, (plain_setFlags s.afterHL _ _ _ _).of_afterRead s.hl⟩
theorem runsPlain_resR8 (u : Bit3) (r : Reg8) (s : State) : RunsPlain s (resR8 u r s) :=
  ⟨_, rfl, plain_setReg _ _ _⟩
theorem runsPlain_resAtHL (u : Bit3) (s : State) : RunsPlain s (resAtHL u s) :=
  ⟨_, rfl, plain_memWrite_afterHL _ _ _⟩
theorem runsPlain_setR8 (u : Bit3) (r : Reg8) (s : State) : RunsPlain s (setR8 u r s) :=
  ⟨_, rfl, plain_setReg _ _ _⟩
theorem runsPlain_setAtHL (u : Bit3) (s : State) : RunsPlain s (setAtHL u s) :=
  ⟨_, rfl, plain_memWrite_afterHL _ _ _⟩
theorem runsPlain_jpCc (cc : Cond) (n : Word) (s : State) : RunsPlain s (jpCc cc n s) :=
  ⟨_, rfl, plain_ite _ _ (plain_setPc _ _)⟩
theorem runsPlain_jrCc (cc : Cond) (e : Word) (s : State) : RunsPlain s (jrCc cc e s) :=
  ⟨_, rfl, plain_ite _ _ (plain_setPc _ _)⟩
theorem runsPlain_callCc (cc : Cond) (n : Word) (s : State) : RunsPlain s (callCc cc n s) :=
  ⟨_, rfl, plain_ite _ _ (plain_call _ _)⟩
theorem runsPlain_retCc (cc : Cond) (s : State) : RunsPlain s (retCc cc s) :=
  ⟨_, rfl, plain_ite _ _ (plain_popPC _)⟩
theorem runsPlain_rstVec (v : Rst) (s : State) : RunsPlain s (rstVec v s) :=
  ⟨_, rfl, plain_call _ _⟩

/-! ## All instructions -/

/-- Every instruction but those five answers a next state, and is plain. -/
theorem exec_plain (i : Instr) (h : isControl i = false) (s : State) : RunsPlain s (exec i s) := by
  cases i
  case ldBB | ldBC | ldBD | ldBE | ldBH | ldBL | ldBA | ldCB | ldCC | ldCD | ldCE | ldCH | ldCL | ldCA | ldDB | ldDC
    | ldDD | ldDE | ldDH | ldDL | ldDA | ldEB | ldEC | ldED | ldEE | ldEH | ldEL | ldEA | ldHB | ldHC | ldHD | ldHE
    | ldHH | ldHL | ldHA | ldLB | ldLC | ldLD | ldLE | ldLH | ldLL | ldLA | ldAB | ldAC | ldAD | ldAE | ldAH | ldAL
    | ldAA =>
    exact runsPlain_ldR8R8 _ _ s
  case ldBN8 _ | ldCN8 _ | ldDN8 _ | ldEN8 _ | ldHN8 _ | ldLN8 _ | ldAN8 _ =>
    exact runsPlain_ldR8N8 _ _ s
  case ldBAtHL | ldCAtHL | ldDAtHL | ldEAtHL | ldHAtHL | ldLAtHL | ldAAtHL =>
    exact runsPlain_ldR8AtHL _ s
  case ldAtHLB | ldAtHLC | ldAtHLD | ldAtHLE | ldAtHLH | ldAtHLL | ldAtHLA =>
    exact runsPlain_ldAtHLR8 _ s
  case ldAAtBC | ldAAtDE =>
    exact runsPlain_ldAAtPtr _ s
  case ldAtBCA | ldAtDEA =>
    exact runsPlain_ldAtPtrA _ s
  case ldBCN16 _ | ldDEN16 _ | ldHLN16 _ | ldSPN16 _ =>
    exact runsPlain_ldR16N16 _ _ s
  case pushBC | pushDE | pushHL =>
    exact runsPlain_pushR16 _ s
  case popBC | popDE | popHL =>
    exact runsPlain_popR16 _ s
  case addAB | addAC | addAD | addAE | addAH | addAL | addAA =>
    exact runsPlain_aluR8 .add _ s
  case adcAB | adcAC | adcAD | adcAE | adcAH | adcAL | adcAA =>
    exact runsPlain_aluR8 .adc _ s
  case subAB | subAC | subAD | subAE | subAH | subAL | subAA =>
    exact runsPlain_aluR8 .sub _ s
  case sbcAB | sbcAC | sbcAD | sbcAE | sbcAH | sbcAL | sbcAA =>
    exact runsPlain_aluR8 .sbc _ s
  case andAB | andAC | andAD | andAE | andAH | andAL | andAA =>
    exact runsPlain_aluR8 .and _ s
  case xorAB | xorAC | xorAD | xorAE | xorAH | xorAL | xorAA =>
    exact runsPlain_aluR8 .xor _ s
  case orAB | orAC | orAD | orAE | orAH | orAL | orAA =>
    exact runsPlain_aluR8 .or _ s
  case cpAB | cpAC | cpAD | cpAE | cpAH | cpAL | cpAA =>
    exact runsPlain_aluR8 .cp _ s
  case addAAtHL =>
    exact runsPlain_aluAtHL .add s
  case adcAAtHL =>
    exact runsPlain_aluAtHL .adc s
  case subAAtHL =>
    exact runsPlain_aluAtHL .sub s
  case sbcAAtHL =>
    exact runsPlain_aluAtHL .sbc s
  case andAAtHL =>
    exact runsPlain_aluAtHL .and s
  case xorAAtHL =>
    exact runsPlain_aluAtHL .xor s
  case orAAtHL =>
    exact runsPlain_aluAtHL .or s
  case cpAAtHL =>
    exact runsPlain_aluAtHL .cp s
  case addAN8 _ =>
    exact runsPlain_aluN8 .add _ s
  case adcAN8 _ =>
    exact runsPlain_aluN8 .adc _ s
  case subAN8 _ =>
    exact runsPlain_aluN8 .sub _ s
  case sbcAN8 _ =>
    exact runsPlain_aluN8 .sbc _ s
  case andAN8 _ =>
    exact runsPlain_aluN8 .and _ s
  case xorAN8 _ =>
    exact runsPlain_aluN8 .xor _ s
  case orAN8 _ =>
    exact runsPlain_aluN8 .or _ s
  case cpAN8 _ =>
    exact runsPlain_aluN8 .cp _ s
  case incB | incC | incD | incE | incH | incL | incA =>
    exact runsPlain_incR8 _ s
  case decB | decC | decD | decE | decH | decL | decA =>
    exact runsPlain_decR8 _ s
  case addHLBC | addHLDE | addHLHL | addHLSP =>
    exact runsPlain_addHLR16 _ s
  case incBC | incDE | incHL | incSP =>
    exact runsPlain_incR16 _ s
  case decBC | decDE | decHL | decSP =>
    exact runsPlain_decR16 _ s
  case rlca | rrca | rla | rra =>
    exact runsPlain_rotateA _ s
  case rlcB | rlcC | rlcD | rlcE | rlcH | rlcL | rlcA | rrcB | rrcC | rrcD | rrcE | rrcH | rrcL | rrcA | rlB | rlC |
    rlD | rlE | rlH | rlL | rlA | rrB | rrC | rrD | rrE | rrH | rrL | rrA | slaB | slaC | slaD | slaE | slaH | slaL
    | slaA | sraB | sraC | sraD | sraE | sraH | sraL | sraA | swapB | swapC | swapD | swapE | swapH | swapL | swapA
    | srlB | srlC | srlD | srlE | srlH | srlL | srlA =>
    exact runsPlain_shiftR8 _ _ s
  case rlcAtHL | rrcAtHL | rlAtHL | rrAtHL | slaAtHL | sraAtHL | swapAtHL | srlAtHL =>
    exact runsPlain_shiftAtHL _ s
  case bit0B | bit0C | bit0D | bit0E | bit0H | bit0L | bit0A | bit1B | bit1C | bit1D | bit1E | bit1H | bit1L | bit1A
    | bit2B | bit2C | bit2D | bit2E | bit2H | bit2L | bit2A | bit3B | bit3C | bit3D | bit3E | bit3H | bit3L | bit3A
    | bit4B | bit4C | bit4D | bit4E | bit4H | bit4L | bit4A | bit5B | bit5C | bit5D | bit5E | bit5H | bit5L | bit5A
    | bit6B | bit6C | bit6D | bit6E | bit6H | bit6L | bit6A | bit7B | bit7C | bit7D | bit7E | bit7H | bit7L | bit7A
    =>
    exact runsPlain_bitR8 _ _ s
  case bit0AtHL | bit1AtHL | bit2AtHL | bit3AtHL | bit4AtHL | bit5AtHL | bit6AtHL | bit7AtHL =>
    exact runsPlain_bitAtHL _ s
  case res0B | res0C | res0D | res0E | res0H | res0L | res0A | res1B | res1C | res1D | res1E | res1H | res1L | res1A
    | res2B | res2C | res2D | res2E | res2H | res2L | res2A | res3B | res3C | res3D | res3E | res3H | res3L | res3A
    | res4B | res4C | res4D | res4E | res4H | res4L | res4A | res5B | res5C | res5D | res5E | res5H | res5L | res5A
    | res6B | res6C | res6D | res6E | res6H | res6L | res6A | res7B | res7C | res7D | res7E | res7H | res7L | res7A
    =>
    exact runsPlain_resR8 _ _ s
  case res0AtHL | res1AtHL | res2AtHL | res3AtHL | res4AtHL | res5AtHL | res6AtHL | res7AtHL =>
    exact runsPlain_resAtHL _ s
  case set0B | set0C | set0D | set0E | set0H | set0L | set0A | set1B | set1C | set1D | set1E | set1H | set1L | set1A
    | set2B | set2C | set2D | set2E | set2H | set2L | set2A | set3B | set3C | set3D | set3E | set3H | set3L | set3A
    | set4B | set4C | set4D | set4E | set4H | set4L | set4A | set5B | set5C | set5D | set5E | set5H | set5L | set5A
    | set6B | set6C | set6D | set6E | set6H | set6L | set6A | set7B | set7C | set7D | set7E | set7H | set7L | set7A
    =>
    exact runsPlain_setR8 _ _ s
  case set0AtHL | set1AtHL | set2AtHL | set3AtHL | set4AtHL | set5AtHL | set6AtHL | set7AtHL =>
    exact runsPlain_setAtHL _ s
  case jpNZN16 _ | jpZN16 _ | jpNCN16 _ | jpCN16 _ =>
    exact runsPlain_jpCc _ _ s
  case jrNZE8 _ | jrZE8 _ | jrNCE8 _ | jrCE8 _ =>
    exact runsPlain_jrCc _ _ s
  case callNZN16 _ | callZN16 _ | callNCN16 _ | callCN16 _ =>
    exact runsPlain_callCc _ _ s
  case retNZ | retZ | retNC | retC =>
    exact runsPlain_retCc _ s
  case rst00 | rst08 | rst10 | rst18 | rst20 | rst28 | rst30 | rst38 =>
    exact runsPlain_rstVec _ s
  case nop =>
    exact ⟨_, rfl, Plain.refl _⟩
  case ldAtHLIncA | ldAtHLDecA =>
    exact ⟨_, rfl, plain_storeMoveHL s _ _ _⟩
  case incAtHL | decAtHL =>
    exact ⟨_, rfl, plain_putAtHL_afterHL _ _⟩
  case ldAtHLN8 _ | ldhAtN8A _ | ldhAtCA | ldAtN16A _ =>
    exact ⟨_, rfl, plain_memWrite _ _ _⟩
  case ldAtN16SP _ =>
    exact ⟨_, rfl, plain_memWrite16 _ _ _⟩
  case ldAAtHLInc | ldAAtHLDec =>
    exact ⟨_, rfl, plain_loadMoveHL s _ _⟩
  case jrE8 _ | jpN16 _ | jpHL =>
    exact ⟨_, rfl, plain_setPc s _⟩
  case daa =>
    exact ⟨_, rfl, plain_putReg _ _ _⟩
  case cpl =>
    exact ⟨_, rfl, plain_setA_setFlags s _ _ _ _ _⟩
  case scf | ccf =>
    exact ⟨_, rfl, plain_setFlags _ _ _ _ _⟩
  case popAF =>
    exact ⟨_, rfl, plain_popAF s _⟩
  case pushAF =>
    exact ⟨_, rfl, plain_push16 _ _⟩
  case ret =>
    exact ⟨_, rfl, plain_popPC _⟩
  case callN16 _ =>
    exact ⟨_, rfl, plain_call _ _⟩
  case addSPE8 _ =>
    exact ⟨_, rfl, plain_setSP_setFlags s _ _ _ _ _⟩
  case ldhAAtN8 _ | ldhAAtC | ldAAtN16 _ =>
    exact ⟨_, rfl, plain_load s _ .a _⟩
  case ldHLSPE8 _ =>
    exact ⟨_, rfl, plain_setHL_setFlags _ _ _ _ _ _⟩
  case ldSPHL =>
    exact ⟨_, rfl, plain_setR16 s .sp _⟩
  case di | ei | reti | halt | stop _ => cases h

/-- What executing an instruction can do to the control state, and to memory; `RETI` is plain but for IME. -/
inductive Effect (i : Instr) (s t : State) : Prop where
  | plain (h : Plain s t)
  | di (hi : i = .di) (ht : t = { s with ime := false, eiPending := false })
  | ei (hi : i = .ei) (ht : t = { s with eiPending := true })
  | reti (hi : i = .reti) (ht : t = s.interruptReturn) (hime : t.ime = true) (hp : Plain s { t with ime := s.ime })
  | haltBug (hi : i = .halt) (h : s.ime = false ∧ s.pending ≠ 0 ∧ s.cfg.haltBug = true)
      (ht : t = { s with haltBug := true })
  | halt (hi : i = .halt) (h : ¬ (s.ime = false ∧ s.pending ≠ 0 ∧ s.cfg.haltBug = true))
      (ht : t = { s with mode := .halted })
  | stop (n : Byte) (hi : i = .stop n) (ht : t = { s with mode := .stopped })

/-- Executing any instruction answers a next state, whose change is one of the seven. -/
theorem exec_next (i : Instr) (s : State) : ∃ t, exec i s = .next t ∧ Effect i s t := by
  by_cases hc : isControl i = false
  · obtain ⟨t, ht, hp⟩ := exec_plain i hc s
    exact ⟨t, ht, .plain hp⟩
  · cases i
    case di => exact ⟨_, rfl, .di rfl rfl⟩
    case ei => exact ⟨_, rfl, .ei rfl rfl⟩
    case reti =>
      have hp := plain_popPC s
      refine ⟨_, rfl, .reti rfl rfl rfl ⟨rfl, hp.eiPending, hp.haltBug, hp.mode, hp.result, hp.env, hp.cfg, hp.flagsLow,
        hp.accesses⟩⟩
    case stop n => exact ⟨_, rfl, .stop n rfl rfl⟩
    case halt =>
      show ∃ t, execHalt s = .next t ∧ _
      unfold execHalt
      split
      · rename_i h
        exact ⟨_, rfl, .haltBug rfl (by simpa [and_assoc] using h) rfl⟩
      · rename_i h
        exact ⟨_, rfl, .halt rfl (by simpa [and_assoc] using h) rfl⟩
    all_goals exact absurd rfl hc

/-- The inversion of `exec`: what an instruction that answers a next state has done. -/
theorem exec_effect (i : Instr) (s t : State) (h : exec i s = .next t) : Effect i s t := by
  obtain ⟨u, hu, he⟩ := exec_next i s
  rw [h] at hu
  cases hu
  exact he

end Sys2Proof.Machine
end

