-- ==== Sys2Proof/Laws/Step.lean ====
section
/-! SUPPORT. What a step can do, said once: `step_cases`, and what the environment, the choice of an interrupt and the
fetch answer. Proofs about steps cite these instead of unfolding `step`. -/

namespace Sys2Proof.Machine

/-! ## The environment (60_exceptions.md R331) -/

section Env
variable (s : State)

@[simp] theorem State.applyEnv_a : s.applyEnv.a = s.a := by unfold State.applyEnv; split <;> rfl
@[simp] theorem State.applyEnv_f : s.applyEnv.f = s.f := by unfold State.applyEnv; split <;> rfl
@[simp] theorem State.applyEnv_b : s.applyEnv.b = s.b := by unfold State.applyEnv; split <;> rfl
@[simp] theorem State.applyEnv_c : s.applyEnv.c = s.c := by unfold State.applyEnv; split <;> rfl
@[simp] theorem State.applyEnv_d : s.applyEnv.d = s.d := by unfold State.applyEnv; split <;> rfl
@[simp] theorem State.applyEnv_e : s.applyEnv.e = s.e := by unfold State.applyEnv; split <;> rfl
@[simp] theorem State.applyEnv_h : s.applyEnv.h = s.h := by unfold State.applyEnv; split <;> rfl
@[simp] theorem State.applyEnv_l : s.applyEnv.l = s.l := by unfold State.applyEnv; split <;> rfl
@[simp] theorem State.applyEnv_sp : s.applyEnv.sp = s.sp := by unfold State.applyEnv; split <;> rfl
@[simp] theorem State.applyEnv_pc : s.applyEnv.pc = s.pc := by unfold State.applyEnv; split <;> rfl
@[simp] theorem State.applyEnv_ime : s.applyEnv.ime = s.ime := by unfold State.applyEnv; split <;> rfl
@[simp] theorem State.applyEnv_eiPending : s.applyEnv.eiPending = s.eiPending := by
  unfold State.applyEnv; split <;> rfl
@[simp] theorem State.applyEnv_haltBug : s.applyEnv.haltBug = s.haltBug := by unfold State.applyEnv; split <;> rfl
@[simp] theorem State.applyEnv_writes : s.applyEnv.writes = s.writes := by unfold State.applyEnv; split <;> rfl
@[simp] theorem State.applyEnv_result : s.applyEnv.result = s.result := by unfold State.applyEnv; split <;> rfl
@[simp] theorem State.applyEnv_cfg : s.applyEnv.cfg = s.cfg := by unfold State.applyEnv; split <;> rfl
@[simp] theorem State.applyEnv_env : s.applyEnv.env = s.env.tail := by
  unfold State.applyEnv; split <;> simp_all

/-- The environment keeps memory's canonical form. -/
theorem State.applyEnv_wf (h : s.m.mem.wf) : s.applyEnv.m.mem.wf := by
  unfold State.applyEnv
  split
  · exact h
  · show Memory.wf (BusState.mem (ite _ _ _))
    split
    · exact h
    · exact busOf_write_wf _ _ _ _ h

/-- Behind the flat Bus the environment's action adds its bits to IF and changes no other byte. -/
theorem State.applyEnv_peek_flat (hf : s.cfg.bus = .flat) {act : EnvAction} {rest : List EnvAction}
    (he : s.env = act :: rest) (x : Word) :
    s.applyEnv.peek x = if x = ifAddr then s.peek ifAddr ||| act.irq.setWidth 8 else s.peek x := by
  rw [State.peek_flat (by simpa using hf), State.peek_flat hf, State.peek_flat hf]
  simp only [State.applyEnv, he, hf, State.peek_flat hf, beq_iff_eq]
  split
  · rename_i h0
    rw [h0]
    split
    · rename_i hx; rw [hx]; simp
    · rfl
  · exact Memory.read_write _ _ _ _

/-- The environment stops no running core. -/
theorem State.applyEnv_mode_running (h : s.mode = .running) : s.applyEnv.mode = .running := by
  unfold State.applyEnv
  split
  · exact h
  · simp [h]

/-- Behind the flat Bus the environment only adds requests: a pending interrupt stays pending. -/
theorem State.applyEnv_pending (hf : s.cfg.bus = .flat) (h : s.pending ≠ 0) : s.applyEnv.pending ≠ 0 := by
  cases he : s.env with
  | nil => simpa [State.applyEnv, he] using h
  | cons act rest =>
    intro h0
    apply h
    simp only [State.pending, State.applyEnv_peek_flat s hf he, ieAddr, ifAddr] at h0 ⊢
    have : ((0xFFFF : Word) = 0xFF0F) = False := by decide
    simp only [this, if_false, if_true, BitVec.and_assoc] at h0 ⊢
    ext k hk
    have := congrArg (fun x => x.getLsbD k) h0
    simp only [BitVec.getLsbD_and, BitVec.getLsbD_or] at this
    simp only [← BitVec.getLsbD_eq_getElem, BitVec.getLsbD_and]
    revert this
    cases (s.peek 0xFFFF).getLsbD k <;> cases (s.peek 0xFF0F).getLsbD k <;> simp

end Env

/-! ## The fetch (30_encoding.md R100) -/

/-- The transactions of reading `n` bytes from an address. -/
def readsFrom : Nat → Word → List Access
  | 0, _ => []
  | n + 1, p => .read p :: readsFrom n (p + 1)

/-- Reading bytes changes the bus state only, by these reads. -/
theorem State.readBytes_state (n : Nat) (p : Word) (s : State) :
    (State.readBytes n p s).2 = { s with m := (busOf s.cfg.bus).after (readsFrom n p) s.m } := by
  induction n generalizing p s with
  | zero => rfl
  | succ n ih => rw [State.readBytes, ih]; rfl

theorem State.readBytes_length (n : Nat) (p : Word) (s : State) : (State.readBytes n p s).1.length = n := by
  induction n generalizing p s with
  | zero => rfl
  | succ n ih => rw [State.readBytes, List.length_cons, ih]

/-- The transactions of a fetch: each byte of the instruction is read once. -/
def State.fetchReads (s : State) : List Access :=
  .read s.pc :: readsFrom (bytesAfterFirst (s.readByte s.pc)) s.afterFirst

/-- A fetch changes the bus state only. -/
theorem State.fetch_state (s : State) :
    s.fetch.2 = { s with m := (busOf s.cfg.bus).after s.fetchReads s.m } := by
  unfold State.fetch
  rw [State.readBytes_state]
  rfl

/-- A fetch keeps memory's canonical form. -/
theorem State.fetch_wf (s : State) (h : s.m.mem.wf) : s.fetch.2.m.mem.wf := by
  rw [State.fetch_state]
  exact busOf_after_wf _ _ _ h

section
variable (s : State)

@[simp] theorem State.fetch_a : s.fetch.2.a = s.a := by rw [State.fetch_state]
@[simp] theorem State.fetch_f : s.fetch.2.f = s.f := by rw [State.fetch_state]
@[simp] theorem State.fetch_b : s.fetch.2.b = s.b := by rw [State.fetch_state]
@[simp] theorem State.fetch_c : s.fetch.2.c = s.c := by rw [State.fetch_state]
@[simp] theorem State.fetch_d : s.fetch.2.d = s.d := by rw [State.fetch_state]
@[simp] theorem State.fetch_e : s.fetch.2.e = s.e := by rw [State.fetch_state]
@[simp] theorem State.fetch_h : s.fetch.2.h = s.h := by rw [State.fetch_state]
@[simp] theorem State.fetch_l : s.fetch.2.l = s.l := by rw [State.fetch_state]
@[simp] theorem State.fetch_sp : s.fetch.2.sp = s.sp := by rw [State.fetch_state]
@[simp] theorem State.fetch_pc : s.fetch.2.pc = s.pc := by rw [State.fetch_state]
@[simp] theorem State.fetch_ime : s.fetch.2.ime = s.ime := by rw [State.fetch_state]
@[simp] theorem State.fetch_eiPending : s.fetch.2.eiPending = s.eiPending := by rw [State.fetch_state]
@[simp] theorem State.fetch_haltBug : s.fetch.2.haltBug = s.haltBug := by rw [State.fetch_state]
@[simp] theorem State.fetch_mode : s.fetch.2.mode = s.mode := by rw [State.fetch_state]
@[simp] theorem State.fetch_writes : s.fetch.2.writes = s.writes := by rw [State.fetch_state]
@[simp] theorem State.fetch_result : s.fetch.2.result = s.result := by rw [State.fetch_state]
@[simp] theorem State.fetch_env : s.fetch.2.env = s.env := by rw [State.fetch_state]
@[simp] theorem State.fetch_cfg : s.fetch.2.cfg = s.cfg := by rw [State.fetch_state]

end

section Flat
variable {s : State} (h : s.cfg.bus = .flat)
include h

theorem State.readBytes_flat (n : Nat) (p : Word) :
    State.readBytes n p s = ((List.range n).map (fun k => s.peek (p + BitVec.ofNat 16 k)), s) := by
  induction n generalizing p with
  | zero => rfl
  | succ n ih =>
    have next : ∀ k : Nat, p + 1 + BitVec.ofNat 16 k = p + BitVec.ofNat 16 (k + 1) := by
      intro k; rw [BitVec.add_assoc]; congr 1; apply BitVec.eq_of_toNat_eq; simp [Nat.add_comm]
    simp only [State.readBytes, State.afterRead_flat h, ih, next, List.range_succ_eq_map, List.map_cons, List.map_map,
      Function.comp_def, State.readByte_flat h, State.peek_flat h]
    simp

theorem State.fetch_flat_state : s.fetch.2 = s := by
  simp only [State.fetch, State.afterRead_flat h, State.readBytes_flat h]

/-- Behind the flat Bus the reads of a fetch change nothing. -/
theorem State.after_fetchReads_flat : (busOf s.cfg.bus).after s.fetchReads s.m = s.m :=
  (congrArg State.m s.fetch_state).symm.trans (congrArg State.m (State.fetch_flat_state h))

/-- Behind the flat Bus the fetched instruction is that of the three bytes there: those it does not read do not
matter. -/
theorem State.decodeNext_flat : s.decodeNext =
    decodeWindow (s.peek s.pc) (s.peek s.afterFirst) (s.peek (s.afterFirst + 1)) := by
  have hb : s.fetch.1 = s.peek s.pc ::
      (List.range (bytesAfterFirst (s.peek s.pc))).map (fun k => s.peek (s.afterFirst + BitVec.ofNat 16 k)) := by
    simp only [State.fetch, State.afterRead_flat h, State.readBytes_flat h, State.readByte_flat h, State.peek_flat h]
  unfold State.decodeNext
  rw [hb]
  exact Laws.decodeWindow_of_read _ _ _ _ rfl (fun hn => by simp [List.getElem?_range hn])
    (fun hn => by simp [List.getElem?_range hn])

end Flat

/-! ## The choice of an interrupt (R323, R324) -/

/-- A value inside `0x1F` with no bit 0 to 4 is zero, so a pending interrupt is always found. -/
theorem firstIrq_eq_none_iff (p : Byte) (h : p &&& 0x1F = p) : firstIrq p = none ↔ p = 0 := by
  revert p; decide

/-- The chosen interrupt is pending, and none with a lower bit is. -/
theorem firstIrq_eq_some_iff (p : Byte) (k : Irq) :
    firstIrq p = some k ↔ p.getLsbD k.bit = true ∧ ∀ j, j < k.bit → p.getLsbD j = false := by
  have h : ∀ p : Byte, firstIrq p = some k → p.getLsbD k.bit = true ∧ ∀ j, j < k.bit → p.getLsbD j = false := by
    cases k <;> decide
  have h' : ∀ p : Byte, (p.getLsbD k.bit = true ∧ ∀ j, j < k.bit → p.getLsbD j = false) → firstIrq p = some k := by
    cases k <;> decide
  exact ⟨h p, h' p⟩

/-- An interrupt's mask is applied already. -/
theorem State.pending_masked (s : State) : s.pending &&& 0x1F = s.pending := by
  simp [State.pending, BitVec.and_assoc]

/-- No interrupt is taken exactly where dispatch is off, IME is clear or none is pending. -/
theorem State.irqToTake_eq_none_iff (s : State) :
    s.irqToTake = none ↔ s.cfg.irqDispatch = false ∨ s.ime = false ∨ s.pending = 0 := by
  unfold State.irqToTake
  split
  · rename_i h
    simp only [Bool.and_eq_true] at h
    simp [firstIrq_eq_none_iff _ s.pending_masked, h]
  · rename_i h
    simp only [Bool.and_eq_true, not_and] at h
    cases hd : s.cfg.irqDispatch <;> simp_all

/-! ## The step (30_encoding.md R102) -/

/-! ### The branches S1 to S4, each under its condition -/

theorem coreStep_stopped {s : State} (h : s.mode = .stopped) : s.coreStep = .next { s with result := some .idle } := by
  unfold State.coreStep
  split
  · rfl
  all_goals rename_i h'; exact absurd (h.symm.trans h') (by decide)

theorem coreStep_halted {s : State} (h : s.mode = .halted) : s.coreStep =
    if s.pending = 0 then .next { s with result := some .idle }
    else .next { s with mode := .running, result := some .woken } := by
  unfold State.coreStep
  split
  · rename_i h'; exact absurd (h.symm.trans h') (by decide)
  · simp only [beq_iff_eq]
  · rename_i h'; exact absurd (h.symm.trans h') (by decide)

theorem coreStep_taken {s : State} {k : Irq} (h : s.mode = .running) (hk : s.irqToTake = some k) :
    s.coreStep = .next { s.interruptEntry k with result := some (.dispatched k) } := by
  unfold State.coreStep
  split
  · rename_i h'; exact absurd (h.symm.trans h') (by decide)
  · rename_i h'; exact absurd (h.symm.trans h') (by decide)
  · rw [hk]

theorem coreStep_instruction {s : State} (h : s.mode = .running) (hk : s.irqToTake = none) :
    s.coreStep = s.instructionPhase := by
  unfold State.coreStep
  split
  · rename_i h'; exact absurd (h.symm.trans h') (by decide)
  · rename_i h'; exact absurd (h.symm.trans h') (by decide)
  · rw [hk]

theorem instructionPhase_ok {s : State} {i : Instr} {n : Nat} (h : s.decodeNext = .ok (i, n)) :
    s.instructionPhase = exec i (s.fetch.2.enter n) := by
  unfold State.instructionPhase; rw [h]

theorem instructionPhase_error {s : State} {u : Unimplemented} (h : s.decodeNext = .error u) :
    s.instructionPhase = .fault (.unimplementedOpcode u.space u.op) := by
  unfold State.instructionPhase; rw [h]

/-- What a step that answers a next state has done. `s₀` is the state its branches begin in; `m` is the bus state that the
reads of the fetch leave. -/
inductive StepCase (s₀ t : State) : Prop where
  | stopped (hm : s₀.mode = .stopped) (ht : t = { s₀ with result := some .idle })
  | halted (hm : s₀.mode = .halted) (hp : s₀.pending = 0) (ht : t = { s₀ with result := some .idle })
  | woken (hm : s₀.mode = .halted) (hp : s₀.pending ≠ 0) (ht : t = { s₀ with mode := .running, result := some .woken })
  | dispatched (k : Irq) (hm : s₀.mode = .running) (hk : s₀.irqToTake = some k)
      (ht : t = { s₀.interruptEntry k with result := some (.dispatched k) })
  | executed (i : Instr) (n : Nat) (m : BusState) (hm : s₀.mode = .running) (hk : s₀.irqToTake = none)
      (hd : s₀.decodeNext = .ok (i, n)) (hr : m = (busOf s₀.cfg.bus).after s₀.fetchReads s₀.m)
      (he : Effect i (({ s₀ with m := m } : State).enter n) t)

/-- The inversion of `step`. -/
theorem step_cases {s t : State} (h : step s = .next t) : StepCase s.applyEnv.clearEvents t := by
  revert h
  unfold step
  generalize s.applyEnv.clearEvents = s₀
  intro h
  unfold State.coreStep at h
  split at h
  · rename_i hm; cases h; exact .stopped hm rfl
  · rename_i hm
    split at h
    · rename_i hp; cases h; exact .halted hm (by simpa using hp) rfl
    · rename_i hp; cases h; exact .woken hm (by simpa using hp) rfl
  · rename_i hm
    split at h
    · rename_i k hk; cases h; exact .dispatched k hm hk rfl
    · rename_i hk
      unfold State.instructionPhase at h
      split at h
      · cases h
      · rename_i i n hd
        rw [State.fetch_state] at h; exact .executed i n _ hm hk hd rfl (exec_effect _ _ _ h)

/-- A step that faults: a running core takes no interrupt and its bytes at PC do not decode. -/
theorem step_fault_iff (s : State) (flt : Fault) : step s = .fault flt ↔
    s.applyEnv.clearEvents.mode = .running ∧ s.applyEnv.clearEvents.irqToTake = none ∧
    ∃ u, s.applyEnv.clearEvents.decodeNext = .error u ∧ flt = .unimplementedOpcode u.space u.op := by
  unfold step
  generalize s.applyEnv.clearEvents = s₀
  unfold State.coreStep State.instructionPhase
  cases hm : s₀.mode <;> simp only [reduceCtorEq, false_and, true_and, iff_false]
  · cases hk : s₀.irqToTake <;> simp only [reduceCtorEq, false_and, true_and]
    cases hd : s₀.decodeNext with
    | error u => simp [eq_comm]
    | ok r =>
      obtain ⟨t, ht, -⟩ := exec_next r.1 (s₀.fetch.2.enter r.2)
      simp [ht]
  · split <;> simp

end Sys2Proof.Machine
end

