-- ==== Sys2Proof/Tests/Slice0.lean ====
section
/-! SUPPORT. The model's own tests, and a witness for the hypotheses of each statement that has some. Expected results
come from the spec: the vectors of 95_test_vectors.md, the templates of 30_encoding.md rule R98, or a hand calculation
from the rule named. -/

open Sys2Proof Sys2Proof.Machine Sys2Proof.Claims

namespace Sys2Proof.Tests

/-! ## Helpers -/

/-- The start of the vectors of 95_test_vectors.md section 2: registers zero, PC = C000, everything else as after
reset. -/
def start : State :=
  { State.reset with a := 0, f := 0, b := 0, c := 0, d := 0, e := 0, h := 0, l := 0, sp := 0xFFFE, pc := 0xC000 }

/-- Store bytes in memory. -/
def put (s : State) (cells : List (Word × Byte)) : State :=
  { s with m := { s.m with mem := cells.foldl (fun m x => m.write x.1 x.2) s.m.mem } }

/-- The state after one step. -/
def stepped (s : State) : Option State :=
  match step s with
  | .next t => some t
  | _ => none

/-- One step from a state with those bytes in memory gives a next state that passes. -/
def after (s : State) (cells : List (Word × Byte)) (p : State → Bool) : Bool :=
  match stepped (put s cells) with
  | some t => p t
  | none => false

/-- The instruction a whole byte sequence decodes to. -/
def decoded (bs : List Byte) : Option Instr :=
  match decode bs with
  | .ok (i, []) => some i
  | _ => none

/-- Each byte sequence decodes to the instruction beside it. -/
abbrev DecodesTo (l : List (List Byte × Instr)) : Prop := l.all (fun x => decoded x.1 == some x.2) = true

/-! ## WellFormed: the ill-formed term of each check is refused, and a legal one accepted (30_encoding.md R91: an e8 is
-128..+127) -/

theorem test_wf_jrE8 : (Instr.jrE8 0x0080).wf = false ∧ (Instr.jrE8 0xFF80).wf = true := by decide
theorem test_wf_jrNZE8 : (Instr.jrNZE8 0x0100).wf = false ∧ (Instr.jrNZE8 0x007F).wf = true := by decide
theorem test_wf_jrZE8 : (Instr.jrZE8 0xFF7F).wf = false ∧ (Instr.jrZE8 0xFFFF).wf = true := by decide
theorem test_wf_jrNCE8 : (Instr.jrNCE8 0x00FF).wf = false ∧ (Instr.jrNCE8 0x0000).wf = true := by decide
theorem test_wf_jrCE8 : (Instr.jrCE8 0x8000).wf = false ∧ (Instr.jrCE8 0x0001).wf = true := by decide
theorem test_wf_addSPE8 : (Instr.addSPE8 0x0080).wf = false ∧ (Instr.addSPE8 0xFFFE).wf = true := by decide
theorem test_wf_ldHLSPE8 : (Instr.ldHLSPE8 0x7F80).wf = false ∧ (Instr.ldHLSPE8 0x0010).wf = true := by decide

/-! ## Decoding: a word of every row, its bits written out from the template of 30_encoding.md R98 and the field codes
of R84, with sample operand bytes -/

theorem test_decode_load8_1 : DecodesTo [
    ([0b000_0_0010], .ldAtBCA), ([0b000_1_0010], .ldAtDEA), ([0b00100010], .ldAtHLIncA),
    ([0b00110010], .ldAtHLDecA), ([0b00_000_110, 0xA5], .ldBN8 0xA5), ([0b00_001_110, 0xA5], .ldCN8 0xA5),
    ([0b00_010_110, 0xA5], .ldDN8 0xA5), ([0b00_011_110, 0xA5], .ldEN8 0xA5),
    ([0b00_100_110, 0xA5], .ldHN8 0xA5), ([0b00_101_110, 0xA5], .ldLN8 0xA5),
    ([0b00_111_110, 0xA5], .ldAN8 0xA5), ([0b00110110, 0xA5], .ldAtHLN8 0xA5), ([0b000_0_1010], .ldAAtBC),
    ([0b000_1_1010], .ldAAtDE), ([0b00101010], .ldAAtHLInc), ([0b00111010], .ldAAtHLDec),
    ([0b01_000_000], .ldBB), ([0b01_000_001], .ldBC), ([0b01_000_010], .ldBD), ([0b01_000_011], .ldBE),
    ([0b01_000_100], .ldBH), ([0b01_000_101], .ldBL), ([0b01_000_111], .ldBA), ([0b01_001_000], .ldCB),
    ([0b01_001_001], .ldCC), ([0b01_001_010], .ldCD), ([0b01_001_011], .ldCE), ([0b01_001_100], .ldCH),
    ([0b01_001_101], .ldCL), ([0b01_001_111], .ldCA), ([0b01_010_000], .ldDB), ([0b01_010_001], .ldDC),
    ([0b01_010_010], .ldDD), ([0b01_010_011], .ldDE), ([0b01_010_100], .ldDH), ([0b01_010_101], .ldDL),
    ([0b01_010_111], .ldDA), ([0b01_011_000], .ldEB), ([0b01_011_001], .ldEC), ([0b01_011_010], .ldED),
    ([0b01_011_011], .ldEE), ([0b01_011_100], .ldEH), ([0b01_011_101], .ldEL)] := by decide

theorem test_decode_load8_2 : DecodesTo [
    ([0b01_011_111], .ldEA), ([0b01_100_000], .ldHB), ([0b01_100_001], .ldHC), ([0b01_100_010], .ldHD),
    ([0b01_100_011], .ldHE), ([0b01_100_100], .ldHH), ([0b01_100_101], .ldHL), ([0b01_100_111], .ldHA),
    ([0b01_101_000], .ldLB), ([0b01_101_001], .ldLC), ([0b01_101_010], .ldLD), ([0b01_101_011], .ldLE),
    ([0b01_101_100], .ldLH), ([0b01_101_101], .ldLL), ([0b01_101_111], .ldLA), ([0b01_111_000], .ldAB),
    ([0b01_111_001], .ldAC), ([0b01_111_010], .ldAD), ([0b01_111_011], .ldAE), ([0b01_111_100], .ldAH),
    ([0b01_111_101], .ldAL), ([0b01_111_111], .ldAA), ([0b01_000_110], .ldBAtHL), ([0b01_001_110], .ldCAtHL),
    ([0b01_010_110], .ldDAtHL), ([0b01_011_110], .ldEAtHL), ([0b01_100_110], .ldHAtHL),
    ([0b01_101_110], .ldLAtHL), ([0b01_111_110], .ldAAtHL), ([0b01110_000], .ldAtHLB),
    ([0b01110_001], .ldAtHLC), ([0b01110_010], .ldAtHLD), ([0b01110_011], .ldAtHLE), ([0b01110_100], .ldAtHLH),
    ([0b01110_101], .ldAtHLL), ([0b01110_111], .ldAtHLA), ([0b11100000, 0xA5], .ldhAtN8A 0xA5),
    ([0b11100010], .ldhAtCA), ([0b11101010, 0x34, 0x12], .ldAtN16A 0x1234),
    ([0b11110000, 0xA5], .ldhAAtN8 0xA5), ([0b11110010], .ldhAAtC), ([0b11111010, 0x34, 0x12], .ldAAtN16 0x1234)] := by decide

theorem test_decode_load16 : DecodesTo [
    ([0b00_00_0001, 0x34, 0x12], .ldBCN16 0x1234), ([0b00_01_0001, 0x34, 0x12], .ldDEN16 0x1234),
    ([0b00_10_0001, 0x34, 0x12], .ldHLN16 0x1234), ([0b00_11_0001, 0x34, 0x12], .ldSPN16 0x1234),
    ([0b00001000, 0x34, 0x12], .ldAtN16SP 0x1234), ([0b11_00_0001], .popBC), ([0b11_01_0001], .popDE),
    ([0b11_10_0001], .popHL), ([0b11110001], .popAF), ([0b11_00_0101], .pushBC), ([0b11_01_0101], .pushDE),
    ([0b11_10_0101], .pushHL), ([0b11110101], .pushAF), ([0b11111000, 0x80], .ldHLSPE8 0xFF80),
    ([0b11111001], .ldSPHL)] := by decide

theorem test_decode_alu8_1 : DecodesTo [
    ([0b00_000_100], .incB), ([0b00_001_100], .incC), ([0b00_010_100], .incD), ([0b00_011_100], .incE),
    ([0b00_100_100], .incH), ([0b00_101_100], .incL), ([0b00_111_100], .incA), ([0b00110100], .incAtHL),
    ([0b00_000_101], .decB), ([0b00_001_101], .decC), ([0b00_010_101], .decD), ([0b00_011_101], .decE),
    ([0b00_100_101], .decH), ([0b00_101_101], .decL), ([0b00_111_101], .decA), ([0b00110101], .decAtHL),
    ([0b00100111], .daa), ([0b00101111], .cpl), ([0b00110111], .scf), ([0b00111111], .ccf),
    ([0b10000_000], .addAB), ([0b10000_001], .addAC), ([0b10000_010], .addAD), ([0b10000_011], .addAE),
    ([0b10000_100], .addAH), ([0b10000_101], .addAL), ([0b10000_111], .addAA), ([0b10000110], .addAAtHL),
    ([0b11000110, 0xA5], .addAN8 0xA5), ([0b10001_000], .adcAB), ([0b10001_001], .adcAC),
    ([0b10001_010], .adcAD), ([0b10001_011], .adcAE), ([0b10001_100], .adcAH), ([0b10001_101], .adcAL),
    ([0b10001_111], .adcAA), ([0b10001110], .adcAAtHL), ([0b11001110, 0xA5], .adcAN8 0xA5),
    ([0b10010_000], .subAB), ([0b10010_001], .subAC), ([0b10010_010], .subAD), ([0b10010_011], .subAE),
    ([0b10010_100], .subAH)] := by decide

theorem test_decode_alu8_2 : DecodesTo [
    ([0b10010_101], .subAL), ([0b10010_111], .subAA), ([0b10010110], .subAAtHL),
    ([0b11010110, 0xA5], .subAN8 0xA5), ([0b10011_000], .sbcAB), ([0b10011_001], .sbcAC),
    ([0b10011_010], .sbcAD), ([0b10011_011], .sbcAE), ([0b10011_100], .sbcAH), ([0b10011_101], .sbcAL),
    ([0b10011_111], .sbcAA), ([0b10011110], .sbcAAtHL), ([0b11011110, 0xA5], .sbcAN8 0xA5),
    ([0b10100_000], .andAB), ([0b10100_001], .andAC), ([0b10100_010], .andAD), ([0b10100_011], .andAE),
    ([0b10100_100], .andAH), ([0b10100_101], .andAL), ([0b10100_111], .andAA), ([0b10100110], .andAAtHL),
    ([0b11100110, 0xA5], .andAN8 0xA5), ([0b10101_000], .xorAB), ([0b10101_001], .xorAC),
    ([0b10101_010], .xorAD), ([0b10101_011], .xorAE), ([0b10101_100], .xorAH), ([0b10101_101], .xorAL),
    ([0b10101_111], .xorAA), ([0b10101110], .xorAAtHL), ([0b11101110, 0xA5], .xorAN8 0xA5),
    ([0b10110_000], .orAB), ([0b10110_001], .orAC), ([0b10110_010], .orAD), ([0b10110_011], .orAE),
    ([0b10110_100], .orAH), ([0b10110_101], .orAL), ([0b10110_111], .orAA), ([0b10110110], .orAAtHL),
    ([0b11110110, 0xA5], .orAN8 0xA5), ([0b10111_000], .cpAB), ([0b10111_001], .cpAC), ([0b10111_010], .cpAD)] := by decide

theorem test_decode_alu8_3 : DecodesTo [
    ([0b10111_011], .cpAE), ([0b10111_100], .cpAH), ([0b10111_101], .cpAL), ([0b10111_111], .cpAA),
    ([0b10111110], .cpAAtHL), ([0b11111110, 0xA5], .cpAN8 0xA5)] := by decide

theorem test_decode_alu16 : DecodesTo [
    ([0b00_00_0011], .incBC), ([0b00_01_0011], .incDE), ([0b00_10_0011], .incHL), ([0b00_11_0011], .incSP),
    ([0b00_00_1001], .addHLBC), ([0b00_01_1001], .addHLDE), ([0b00_10_1001], .addHLHL),
    ([0b00_11_1001], .addHLSP), ([0b00_00_1011], .decBC), ([0b00_01_1011], .decDE), ([0b00_10_1011], .decHL),
    ([0b00_11_1011], .decSP), ([0b11101000, 0x80], .addSPE8 0xFF80)] := by decide

theorem test_decode_bits_1 : DecodesTo [
    ([0b00000111], .rlca), ([0b00001111], .rrca), ([0b00010111], .rla), ([0b00011111], .rra),
    ([0xCB, 0b00000_000], .rlcB), ([0xCB, 0b00000_001], .rlcC), ([0xCB, 0b00000_010], .rlcD),
    ([0xCB, 0b00000_011], .rlcE), ([0xCB, 0b00000_100], .rlcH), ([0xCB, 0b00000_101], .rlcL),
    ([0xCB, 0b00000_111], .rlcA), ([0xCB, 0b00000110], .rlcAtHL), ([0xCB, 0b00001_000], .rrcB),
    ([0xCB, 0b00001_001], .rrcC), ([0xCB, 0b00001_010], .rrcD), ([0xCB, 0b00001_011], .rrcE),
    ([0xCB, 0b00001_100], .rrcH), ([0xCB, 0b00001_101], .rrcL), ([0xCB, 0b00001_111], .rrcA),
    ([0xCB, 0b00001110], .rrcAtHL), ([0xCB, 0b00010_000], .rlB), ([0xCB, 0b00010_001], .rlC),
    ([0xCB, 0b00010_010], .rlD), ([0xCB, 0b00010_011], .rlE), ([0xCB, 0b00010_100], .rlH),
    ([0xCB, 0b00010_101], .rlL), ([0xCB, 0b00010_111], .rlA), ([0xCB, 0b00010110], .rlAtHL),
    ([0xCB, 0b00011_000], .rrB), ([0xCB, 0b00011_001], .rrC), ([0xCB, 0b00011_010], .rrD),
    ([0xCB, 0b00011_011], .rrE), ([0xCB, 0b00011_100], .rrH), ([0xCB, 0b00011_101], .rrL),
    ([0xCB, 0b00011_111], .rrA), ([0xCB, 0b00011110], .rrAtHL), ([0xCB, 0b00100_000], .slaB),
    ([0xCB, 0b00100_001], .slaC), ([0xCB, 0b00100_010], .slaD), ([0xCB, 0b00100_011], .slaE),
    ([0xCB, 0b00100_100], .slaH), ([0xCB, 0b00100_101], .slaL), ([0xCB, 0b00100_111], .slaA)] := by decide

theorem test_decode_bits_2 : DecodesTo [
    ([0xCB, 0b00100110], .slaAtHL), ([0xCB, 0b00101_000], .sraB), ([0xCB, 0b00101_001], .sraC),
    ([0xCB, 0b00101_010], .sraD), ([0xCB, 0b00101_011], .sraE), ([0xCB, 0b00101_100], .sraH),
    ([0xCB, 0b00101_101], .sraL), ([0xCB, 0b00101_111], .sraA), ([0xCB, 0b00101110], .sraAtHL),
    ([0xCB, 0b00110_000], .swapB), ([0xCB, 0b00110_001], .swapC), ([0xCB, 0b00110_010], .swapD),
    ([0xCB, 0b00110_011], .swapE), ([0xCB, 0b00110_100], .swapH), ([0xCB, 0b00110_101], .swapL),
    ([0xCB, 0b00110_111], .swapA), ([0xCB, 0b00110110], .swapAtHL), ([0xCB, 0b00111_000], .srlB),
    ([0xCB, 0b00111_001], .srlC), ([0xCB, 0b00111_010], .srlD), ([0xCB, 0b00111_011], .srlE),
    ([0xCB, 0b00111_100], .srlH), ([0xCB, 0b00111_101], .srlL), ([0xCB, 0b00111_111], .srlA),
    ([0xCB, 0b00111110], .srlAtHL), ([0xCB, 0b01_000_000], .bit0B), ([0xCB, 0b01_000_001], .bit0C),
    ([0xCB, 0b01_000_010], .bit0D), ([0xCB, 0b01_000_011], .bit0E), ([0xCB, 0b01_000_100], .bit0H),
    ([0xCB, 0b01_000_101], .bit0L), ([0xCB, 0b01_000_111], .bit0A), ([0xCB, 0b01_001_000], .bit1B),
    ([0xCB, 0b01_001_001], .bit1C), ([0xCB, 0b01_001_010], .bit1D), ([0xCB, 0b01_001_011], .bit1E),
    ([0xCB, 0b01_001_100], .bit1H), ([0xCB, 0b01_001_101], .bit1L), ([0xCB, 0b01_001_111], .bit1A),
    ([0xCB, 0b01_010_000], .bit2B), ([0xCB, 0b01_010_001], .bit2C), ([0xCB, 0b01_010_010], .bit2D),
    ([0xCB, 0b01_010_011], .bit2E)] := by decide

theorem test_decode_bits_3 : DecodesTo [
    ([0xCB, 0b01_010_100], .bit2H), ([0xCB, 0b01_010_101], .bit2L), ([0xCB, 0b01_010_111], .bit2A),
    ([0xCB, 0b01_011_000], .bit3B), ([0xCB, 0b01_011_001], .bit3C), ([0xCB, 0b01_011_010], .bit3D),
    ([0xCB, 0b01_011_011], .bit3E), ([0xCB, 0b01_011_100], .bit3H), ([0xCB, 0b01_011_101], .bit3L),
    ([0xCB, 0b01_011_111], .bit3A), ([0xCB, 0b01_100_000], .bit4B), ([0xCB, 0b01_100_001], .bit4C),
    ([0xCB, 0b01_100_010], .bit4D), ([0xCB, 0b01_100_011], .bit4E), ([0xCB, 0b01_100_100], .bit4H),
    ([0xCB, 0b01_100_101], .bit4L), ([0xCB, 0b01_100_111], .bit4A), ([0xCB, 0b01_101_000], .bit5B),
    ([0xCB, 0b01_101_001], .bit5C), ([0xCB, 0b01_101_010], .bit5D), ([0xCB, 0b01_101_011], .bit5E),
    ([0xCB, 0b01_101_100], .bit5H), ([0xCB, 0b01_101_101], .bit5L), ([0xCB, 0b01_101_111], .bit5A),
    ([0xCB, 0b01_110_000], .bit6B), ([0xCB, 0b01_110_001], .bit6C), ([0xCB, 0b01_110_010], .bit6D),
    ([0xCB, 0b01_110_011], .bit6E), ([0xCB, 0b01_110_100], .bit6H), ([0xCB, 0b01_110_101], .bit6L),
    ([0xCB, 0b01_110_111], .bit6A), ([0xCB, 0b01_111_000], .bit7B), ([0xCB, 0b01_111_001], .bit7C),
    ([0xCB, 0b01_111_010], .bit7D), ([0xCB, 0b01_111_011], .bit7E), ([0xCB, 0b01_111_100], .bit7H),
    ([0xCB, 0b01_111_101], .bit7L), ([0xCB, 0b01_111_111], .bit7A), ([0xCB, 0b01_000_110], .bit0AtHL),
    ([0xCB, 0b01_001_110], .bit1AtHL), ([0xCB, 0b01_010_110], .bit2AtHL), ([0xCB, 0b01_011_110], .bit3AtHL),
    ([0xCB, 0b01_100_110], .bit4AtHL)] := by decide

theorem test_decode_bits_4 : DecodesTo [
    ([0xCB, 0b01_101_110], .bit5AtHL), ([0xCB, 0b01_110_110], .bit6AtHL), ([0xCB, 0b01_111_110], .bit7AtHL),
    ([0xCB, 0b10_000_000], .res0B), ([0xCB, 0b10_000_001], .res0C), ([0xCB, 0b10_000_010], .res0D),
    ([0xCB, 0b10_000_011], .res0E), ([0xCB, 0b10_000_100], .res0H), ([0xCB, 0b10_000_101], .res0L),
    ([0xCB, 0b10_000_111], .res0A), ([0xCB, 0b10_001_000], .res1B), ([0xCB, 0b10_001_001], .res1C),
    ([0xCB, 0b10_001_010], .res1D), ([0xCB, 0b10_001_011], .res1E), ([0xCB, 0b10_001_100], .res1H),
    ([0xCB, 0b10_001_101], .res1L), ([0xCB, 0b10_001_111], .res1A), ([0xCB, 0b10_010_000], .res2B),
    ([0xCB, 0b10_010_001], .res2C), ([0xCB, 0b10_010_010], .res2D), ([0xCB, 0b10_010_011], .res2E),
    ([0xCB, 0b10_010_100], .res2H), ([0xCB, 0b10_010_101], .res2L), ([0xCB, 0b10_010_111], .res2A),
    ([0xCB, 0b10_011_000], .res3B), ([0xCB, 0b10_011_001], .res3C), ([0xCB, 0b10_011_010], .res3D),
    ([0xCB, 0b10_011_011], .res3E), ([0xCB, 0b10_011_100], .res3H), ([0xCB, 0b10_011_101], .res3L),
    ([0xCB, 0b10_011_111], .res3A), ([0xCB, 0b10_100_000], .res4B), ([0xCB, 0b10_100_001], .res4C),
    ([0xCB, 0b10_100_010], .res4D), ([0xCB, 0b10_100_011], .res4E), ([0xCB, 0b10_100_100], .res4H),
    ([0xCB, 0b10_100_101], .res4L), ([0xCB, 0b10_100_111], .res4A), ([0xCB, 0b10_101_000], .res5B),
    ([0xCB, 0b10_101_001], .res5C), ([0xCB, 0b10_101_010], .res5D), ([0xCB, 0b10_101_011], .res5E),
    ([0xCB, 0b10_101_100], .res5H)] := by decide

theorem test_decode_bits_5 : DecodesTo [
    ([0xCB, 0b10_101_101], .res5L), ([0xCB, 0b10_101_111], .res5A), ([0xCB, 0b10_110_000], .res6B),
    ([0xCB, 0b10_110_001], .res6C), ([0xCB, 0b10_110_010], .res6D), ([0xCB, 0b10_110_011], .res6E),
    ([0xCB, 0b10_110_100], .res6H), ([0xCB, 0b10_110_101], .res6L), ([0xCB, 0b10_110_111], .res6A),
    ([0xCB, 0b10_111_000], .res7B), ([0xCB, 0b10_111_001], .res7C), ([0xCB, 0b10_111_010], .res7D),
    ([0xCB, 0b10_111_011], .res7E), ([0xCB, 0b10_111_100], .res7H), ([0xCB, 0b10_111_101], .res7L),
    ([0xCB, 0b10_111_111], .res7A), ([0xCB, 0b10_000_110], .res0AtHL), ([0xCB, 0b10_001_110], .res1AtHL),
    ([0xCB, 0b10_010_110], .res2AtHL), ([0xCB, 0b10_011_110], .res3AtHL), ([0xCB, 0b10_100_110], .res4AtHL),
    ([0xCB, 0b10_101_110], .res5AtHL), ([0xCB, 0b10_110_110], .res6AtHL), ([0xCB, 0b10_111_110], .res7AtHL),
    ([0xCB, 0b11_000_000], .set0B), ([0xCB, 0b11_000_001], .set0C), ([0xCB, 0b11_000_010], .set0D),
    ([0xCB, 0b11_000_011], .set0E), ([0xCB, 0b11_000_100], .set0H), ([0xCB, 0b11_000_101], .set0L),
    ([0xCB, 0b11_000_111], .set0A), ([0xCB, 0b11_001_000], .set1B), ([0xCB, 0b11_001_001], .set1C),
    ([0xCB, 0b11_001_010], .set1D), ([0xCB, 0b11_001_011], .set1E), ([0xCB, 0b11_001_100], .set1H),
    ([0xCB, 0b11_001_101], .set1L), ([0xCB, 0b11_001_111], .set1A), ([0xCB, 0b11_010_000], .set2B),
    ([0xCB, 0b11_010_001], .set2C), ([0xCB, 0b11_010_010], .set2D), ([0xCB, 0b11_010_011], .set2E),
    ([0xCB, 0b11_010_100], .set2H)] := by decide

theorem test_decode_bits_6 : DecodesTo [
    ([0xCB, 0b11_010_101], .set2L), ([0xCB, 0b11_010_111], .set2A), ([0xCB, 0b11_011_000], .set3B),
    ([0xCB, 0b11_011_001], .set3C), ([0xCB, 0b11_011_010], .set3D), ([0xCB, 0b11_011_011], .set3E),
    ([0xCB, 0b11_011_100], .set3H), ([0xCB, 0b11_011_101], .set3L), ([0xCB, 0b11_011_111], .set3A),
    ([0xCB, 0b11_100_000], .set4B), ([0xCB, 0b11_100_001], .set4C), ([0xCB, 0b11_100_010], .set4D),
    ([0xCB, 0b11_100_011], .set4E), ([0xCB, 0b11_100_100], .set4H), ([0xCB, 0b11_100_101], .set4L),
    ([0xCB, 0b11_100_111], .set4A), ([0xCB, 0b11_101_000], .set5B), ([0xCB, 0b11_101_001], .set5C),
    ([0xCB, 0b11_101_010], .set5D), ([0xCB, 0b11_101_011], .set5E), ([0xCB, 0b11_101_100], .set5H),
    ([0xCB, 0b11_101_101], .set5L), ([0xCB, 0b11_101_111], .set5A), ([0xCB, 0b11_110_000], .set6B),
    ([0xCB, 0b11_110_001], .set6C), ([0xCB, 0b11_110_010], .set6D), ([0xCB, 0b11_110_011], .set6E),
    ([0xCB, 0b11_110_100], .set6H), ([0xCB, 0b11_110_101], .set6L), ([0xCB, 0b11_110_111], .set6A),
    ([0xCB, 0b11_111_000], .set7B), ([0xCB, 0b11_111_001], .set7C), ([0xCB, 0b11_111_010], .set7D),
    ([0xCB, 0b11_111_011], .set7E), ([0xCB, 0b11_111_100], .set7H), ([0xCB, 0b11_111_101], .set7L),
    ([0xCB, 0b11_111_111], .set7A), ([0xCB, 0b11_000_110], .set0AtHL), ([0xCB, 0b11_001_110], .set1AtHL),
    ([0xCB, 0b11_010_110], .set2AtHL), ([0xCB, 0b11_011_110], .set3AtHL), ([0xCB, 0b11_100_110], .set4AtHL),
    ([0xCB, 0b11_101_110], .set5AtHL)] := by decide

theorem test_decode_bits_7 : DecodesTo [
    ([0xCB, 0b11_110_110], .set6AtHL), ([0xCB, 0b11_111_110], .set7AtHL)] := by decide

theorem test_decode_control : DecodesTo [
    ([0b00011000, 0x80], .jrE8 0xFF80), ([0b001_00_000, 0x80], .jrNZE8 0xFF80),
    ([0b001_01_000, 0x80], .jrZE8 0xFF80), ([0b001_10_000, 0x80], .jrNCE8 0xFF80),
    ([0b001_11_000, 0x80], .jrCE8 0xFF80), ([0b110_00_000], .retNZ), ([0b110_01_000], .retZ),
    ([0b110_10_000], .retNC), ([0b110_11_000], .retC), ([0b110_00_010, 0x34, 0x12], .jpNZN16 0x1234),
    ([0b110_01_010, 0x34, 0x12], .jpZN16 0x1234), ([0b110_10_010, 0x34, 0x12], .jpNCN16 0x1234),
    ([0b110_11_010, 0x34, 0x12], .jpCN16 0x1234), ([0b11000011, 0x34, 0x12], .jpN16 0x1234),
    ([0b110_00_100, 0x34, 0x12], .callNZN16 0x1234), ([0b110_01_100, 0x34, 0x12], .callZN16 0x1234),
    ([0b110_10_100, 0x34, 0x12], .callNCN16 0x1234), ([0b110_11_100, 0x34, 0x12], .callCN16 0x1234),
    ([0b11_000_111], .rst00), ([0b11_001_111], .rst08), ([0b11_010_111], .rst10), ([0b11_011_111], .rst18),
    ([0b11_100_111], .rst20), ([0b11_101_111], .rst28), ([0b11_110_111], .rst30), ([0b11_111_111], .rst38),
    ([0b11001001], .ret), ([0b11011001], .reti), ([0b11001101, 0x34, 0x12], .callN16 0x1234),
    ([0b11101001], .jpHL)] := by decide

theorem test_decode_system : DecodesTo [
    ([0b00000000], .nop), ([0b00010000, 0xA5], .stop 0xA5), ([0b01110110], .halt), ([0b11110011], .di),
    ([0b11111011], .ei)] := by decide

/-! ## One step each: vectors of 95_test_vectors.md section 2, by their numbers; they are derived from the rules there,
not from this model -/

theorem test_T1_ld_b_c :
    after ({ start with c := 0x5A }) [(0xC000, 0x41)]
      (fun t => t.b == 0x5A && t.pc == 0xC001) = true := by decide

theorem test_T3_ld_b_n8 :
    after start [(0xC000, 0x06), (0xC001, 0x9C)]
      (fun t => t.b == 0x9C && t.pc == 0xC002) = true := by decide

theorem test_T4_ld_a_at_hl :
    after ({ start with h := 0xD0, l := 0x00 }) [(0xC000, 0x7E), (0xD000, 0x42)]
      (fun t => t.a == 0x42 && t.pc == 0xC001) = true := by decide

theorem test_T5_ld_at_hl_a :
    after ({ start with a := 0x99, h := 0xD0, l := 0x10 }) [(0xC000, 0x77)]
      (fun t => t.pc == 0xC001 && t.peek 0xD010 == 0x99) = true := by decide

theorem test_T6_ld_at_hl_n8 :
    after ({ start with h := 0xD0, l := 0x00 }) [(0xC000, 0x36), (0xC001, 0x5A)]
      (fun t => t.pc == 0xC002 && t.peek 0xD000 == 0x5A) = true := by decide

theorem test_T7_ld_a_at_bc :
    after ({ start with b := 0xD1, c := 0x23 }) [(0xC000, 0x0A), (0xD123, 0x7F)]
      (fun t => t.a == 0x7F && t.pc == 0xC001) = true := by decide

theorem test_T8_ld_at_de_a :
    after ({ start with a := 0x3C, d := 0xD2, e := 0x00 }) [(0xC000, 0x12)]
      (fun t => t.pc == 0xC001 && t.peek 0xD200 == 0x3C) = true := by decide

theorem test_T9_ld_a_at_n16 :
    after start [(0xC000, 0xFA), (0xC001, 0x34), (0xC002, 0xD2), (0xD234, 0xAB)]
      (fun t => t.a == 0xAB && t.pc == 0xC003) = true := by decide

theorem test_T10_ld_at_n16_a :
    after ({ start with a := 0x11 }) [(0xC000, 0xEA), (0xC001, 0x00), (0xC002, 0xD3)]
      (fun t => t.pc == 0xC003 && t.peek 0xD300 == 0x11) = true := by decide

theorem test_T11_ld_at_hl_inc_a :
    after ({ start with a := 0x01, h := 0xFF, l := 0xFF }) [(0xC000, 0x22)]
      (fun t => t.h == 0x00 && t.l == 0x00 && t.pc == 0xC001 && t.peek 0xFFFF == 0x01) = true := by decide

theorem test_T12_ld_a_at_hl_inc :
    after ({ start with h := 0xD0, l := 0xFF }) [(0xC000, 0x2A), (0xD0FF, 0x66)]
      (fun t => t.a == 0x66 && t.h == 0xD1 && t.l == 0x00 && t.pc == 0xC001) = true := by decide

theorem test_T13_ld_at_hl_dec_a :
    after ({ start with a := 0x02, h := 0x00, l := 0x00 }) [(0xC000, 0x32)]
      (fun t => t.h == 0xFF && t.l == 0xFF && t.pc == 0xC001 && t.peek 0x0000 == 0x02) = true := by decide

theorem test_T14_ld_a_at_hl_dec :
    after ({ start with h := 0xD0, l := 0x00 }) [(0xC000, 0x3A), (0xD000, 0x12)]
      (fun t => t.a == 0x12 && t.h == 0xCF && t.l == 0xFF && t.pc == 0xC001) = true := by decide

theorem test_T15_ldh_at_n8_a :
    after ({ start with a := 0x55 }) [(0xC000, 0xE0), (0xC001, 0x80)]
      (fun t => t.pc == 0xC002 && t.peek 0xFF80 == 0x55) = true := by decide

theorem test_T16_ldh_a_at_n8 :
    after start [(0xC000, 0xF0), (0xC001, 0x0F), (0xFF0F, 0xE1)]
      (fun t => t.a == 0xE1 && t.pc == 0xC002) = true := by decide

theorem test_T17_ldh_at_c_a :
    after ({ start with a := 0x77, c := 0x80 }) [(0xC000, 0xE2)]
      (fun t => t.pc == 0xC001 && t.peek 0xFF80 == 0x77) = true := by decide

theorem test_T18_ldh_a_at_c :
    after ({ start with c := 0xFF }) [(0xC000, 0xF2), (0xFFFF, 0x1F)]
      (fun t => t.a == 0x1F && t.pc == 0xC001) = true := by decide

theorem test_T19_ld_bc_n16 :
    after start [(0xC000, 0x01), (0xC001, 0x34), (0xC002, 0x12)]
      (fun t => t.b == 0x12 && t.c == 0x34 && t.pc == 0xC003) = true := by decide

theorem test_T21_ld_at_n16_sp :
    after ({ start with sp := 0xABCD }) [(0xC000, 0x08), (0xC001, 0x00), (0xC002, 0xD0)]
      (fun t => t.pc == 0xC003 && t.peek 0xD000 == 0xCD && t.peek 0xD001 == 0xAB) = true := by decide

theorem test_T22_ld_at_n16_sp :
    after ({ start with sp := 0x1234 }) [(0xC000, 0x08), (0xC001, 0xFF), (0xC002, 0xFF)]
      (fun t => t.pc == 0xC003 && t.peek 0xFFFF == 0x34 && t.peek 0x0000 == 0x12) = true := by decide

theorem test_T23_ld_sp_hl :
    after ({ start with h := 0x12, l := 0x34 }) [(0xC000, 0xF9)]
      (fun t => t.sp == 0x1234 && t.pc == 0xC001) = true := by decide

theorem test_T24_ld_hl_sp_e8 :
    after ({ start with sp := 0x00FF }) [(0xC000, 0xF8), (0xC001, 0x01)]
      (fun t => t.f == 0x30 && t.h == 0x01 && t.pc == 0xC002) = true := by decide

theorem test_T25_ld_hl_sp_e8 :
    after ({ start with sp := 0x0000 }) [(0xC000, 0xF8), (0xC001, 0xFF)]
      (fun t => t.h == 0xFF && t.l == 0xFF && t.pc == 0xC002) = true := by decide

theorem test_T28_push_af :
    after ({ start with a := 0xAB, f := 0xF0 }) [(0xC000, 0xF5)]
      (fun t => t.sp == 0xFFFC && t.pc == 0xC001 && t.peek 0xFFFD == 0xAB && t.peek 0xFFFC == 0xF0) = true := by decide

theorem test_T29_pop_de :
    after ({ start with sp := 0xFFFC }) [(0xC000, 0xD1), (0xFFFC, 0x34), (0xFFFD, 0x12)]
      (fun t => t.d == 0x12 && t.e == 0x34 && t.sp == 0xFFFE && t.pc == 0xC001) = true := by decide

theorem test_T30_pop_af :
    after ({ start with sp := 0xFFFC }) [(0xC000, 0xF1), (0xFFFC, 0xFF), (0xFFFD, 0x12)]
      (fun t => t.a == 0x12 && t.f == 0xF0 && t.sp == 0xFFFE && t.pc == 0xC001) = true := by decide

theorem test_T31_pop_bc :
    after ({ start with sp := 0xFFFF }) [(0xC000, 0xC1), (0x0000, 0x12), (0xFFFF, 0x34)]
      (fun t => t.b == 0x12 && t.c == 0x34 && t.sp == 0x0001 && t.pc == 0xC001) = true := by decide

theorem test_T32_add_a_b :
    after ({ start with a := 0x3A, b := 0xC6 }) [(0xC000, 0x80)]
      (fun t => t.a == 0x00 && t.f == 0xB0 && t.pc == 0xC001) = true := by decide

theorem test_T36_add_a_n8 :
    after ({ start with a := 0xFF }) [(0xC000, 0xC6), (0xC001, 0x01)]
      (fun t => t.a == 0x00 && t.f == 0xB0 && t.pc == 0xC002) = true := by decide

theorem test_T37_adc_a_b :
    after ({ start with a := 0xFF, b := 0x00, f := 0x10 }) [(0xC000, 0x88)]
      (fun t => t.a == 0x00 && t.f == 0xB0 && t.pc == 0xC001) = true := by decide

theorem test_T38_adc_a_n8 :
    after ({ start with a := 0x00, f := 0x10 }) [(0xC000, 0xCE), (0xC001, 0x0F)]
      (fun t => t.a == 0x10 && t.f == 0x20 && t.pc == 0xC002) = true := by decide

theorem test_T41_sub_a_n8 :
    after ({ start with a := 0x3E }) [(0xC000, 0xD6), (0xC001, 0x40)]
      (fun t => t.a == 0xFE && t.f == 0x50 && t.pc == 0xC002) = true := by decide

theorem test_T43_sbc_a_b :
    after ({ start with a := 0x00, b := 0x00, f := 0x10 }) [(0xC000, 0x98)]
      (fun t => t.a == 0xFF && t.f == 0x70 && t.pc == 0xC001) = true := by decide

theorem test_T44_sbc_a_n8 :
    after ({ start with a := 0x10, f := 0x10 }) [(0xC000, 0xDE), (0xC001, 0x01)]
      (fun t => t.a == 0x0E && t.f == 0x60 && t.pc == 0xC002) = true := by decide

theorem test_T45_and_a_b :
    after ({ start with a := 0x5A, b := 0xA5 }) [(0xC000, 0xA0)]
      (fun t => t.a == 0x00 && t.f == 0xA0 && t.pc == 0xC001) = true := by decide

theorem test_T46_and_a_n8 :
    after ({ start with a := 0x3C }) [(0xC000, 0xE6), (0xC001, 0x0F)]
      (fun t => t.a == 0x0C && t.f == 0x20 && t.pc == 0xC002) = true := by decide

theorem test_T47_xor_a_a :
    after ({ start with a := 0x5A, f := 0x70 }) [(0xC000, 0xAF)]
      (fun t => t.a == 0x00 && t.f == 0x80 && t.pc == 0xC001) = true := by decide

theorem test_T48_xor_a_n8 :
    after ({ start with a := 0x0F }) [(0xC000, 0xEE), (0xC001, 0xFF)]
      (fun t => t.a == 0xF0 && t.pc == 0xC002) = true := by decide

theorem test_T49_or_a_b :
    after ({ start with a := 0x00, b := 0x00, f := 0x70 }) [(0xC000, 0xB0)]
      (fun t => t.f == 0x80 && t.pc == 0xC001) = true := by decide

theorem test_T50_or_a_n8 :
    after ({ start with a := 0x01 }) [(0xC000, 0xF6), (0xC001, 0x80)]
      (fun t => t.a == 0x81 && t.pc == 0xC002) = true := by decide

theorem test_T52_cp_a_n8 :
    after ({ start with a := 0x3C }) [(0xC000, 0xFE), (0xC001, 0x40)]
      (fun t => t.f == 0x50 && t.pc == 0xC002) = true := by decide

theorem test_T53_cp_a_at_hl :
    after ({ start with a := 0x10, h := 0xD0, l := 0x00 }) [(0xC000, 0xBE), (0xD000, 0x01)]
      (fun t => t.f == 0x60 && t.pc == 0xC001) = true := by decide

theorem test_T54_inc_a :
    after ({ start with a := 0xFF, f := 0x10 }) [(0xC000, 0x3C)]
      (fun t => t.a == 0x00 && t.f == 0xB0 && t.pc == 0xC001) = true := by decide

theorem test_T56_inc_at_hl :
    after ({ start with h := 0xD0, l := 0x00 }) [(0xC000, 0x34), (0xD000, 0xFF)]
      (fun t => t.f == 0xA0 && t.pc == 0xC001 && t.peek 0xD000 == 0x00) = true := by decide

theorem test_T57_dec_b :
    after ({ start with b := 0x01, f := 0x10 }) [(0xC000, 0x05)]
      (fun t => t.f == 0xD0 && t.b == 0x00 && t.pc == 0xC001) = true := by decide

theorem test_T59_dec_at_hl :
    after ({ start with h := 0xD0, l := 0x00 }) [(0xC000, 0x35), (0xD000, 0x00)]
      (fun t => t.f == 0x60 && t.pc == 0xC001 && t.peek 0xD000 == 0xFF) = true := by decide

theorem test_T60_daa :
    after ({ start with a := 0x7D, f := 0x00 }) [(0xC000, 0x27)]
      (fun t => t.a == 0x83 && t.pc == 0xC001) = true := by decide

theorem test_T61_daa :
    after ({ start with a := 0x4B, f := 0x60 }) [(0xC000, 0x27)]
      (fun t => t.a == 0x45 && t.f == 0x40 && t.pc == 0xC001) = true := by decide

theorem test_T64_cpl :
    after ({ start with a := 0x35, f := 0x90 }) [(0xC000, 0x2F)]
      (fun t => t.a == 0xCA && t.f == 0xF0 && t.pc == 0xC001) = true := by decide

theorem test_T65_scf :
    after ({ start with f := 0xE0 }) [(0xC000, 0x37)]
      (fun t => t.f == 0x90 && t.pc == 0xC001) = true := by decide

theorem test_T66_ccf :
    after ({ start with f := 0x70 }) [(0xC000, 0x3F)]
      (fun t => t.f == 0x00 && t.pc == 0xC001) = true := by decide

theorem test_T68_add_hl_bc :
    after ({ start with h := 0x0F, l := 0xFF, b := 0x00, c := 0x01, f := 0x80 }) [(0xC000, 0x09)]
      (fun t => t.f == 0xA0 && t.h == 0x10 && t.l == 0x00 && t.pc == 0xC001) = true := by decide

theorem test_T70_add_hl_hl :
    after ({ start with h := 0x80, l := 0x00 }) [(0xC000, 0x29)]
      (fun t => t.f == 0x10 && t.h == 0x00 && t.pc == 0xC001) = true := by decide

theorem test_T71_add_hl_sp :
    after ({ start with h := 0x00, l := 0x01, sp := 0xFFFE }) [(0xC000, 0x39)]
      (fun t => t.h == 0xFF && t.l == 0xFF && t.pc == 0xC001) = true := by decide

theorem test_T72_inc_bc :
    after ({ start with b := 0xFF, c := 0xFF, f := 0xF0 }) [(0xC000, 0x03)]
      (fun t => t.b == 0x00 && t.c == 0x00 && t.pc == 0xC001) = true := by decide

theorem test_T73_dec_sp :
    after ({ start with sp := 0x0000 }) [(0xC000, 0x3B)]
      (fun t => t.sp == 0xFFFF && t.pc == 0xC001) = true := by decide

theorem test_T75_add_sp_e8 :
    after ({ start with sp := 0xFFFE }) [(0xC000, 0xE8), (0xC001, 0xFF)]
      (fun t => t.f == 0x30 && t.sp == 0xFFFD && t.pc == 0xC002) = true := by decide

theorem test_T76_add_sp_e8 :
    after ({ start with sp := 0x0000 }) [(0xC000, 0xE8), (0xC001, 0x80)]
      (fun t => t.sp == 0xFF80 && t.pc == 0xC002) = true := by decide

theorem test_T77_rlca :
    after ({ start with a := 0x80, f := 0x80 }) [(0xC000, 0x07)]
      (fun t => t.a == 0x01 && t.f == 0x10 && t.pc == 0xC001) = true := by decide

theorem test_T78_rrca :
    after ({ start with a := 0x01 }) [(0xC000, 0x0F)]
      (fun t => t.a == 0x80 && t.f == 0x10 && t.pc == 0xC001) = true := by decide

theorem test_T80_rla :
    after ({ start with a := 0x00, f := 0x10 }) [(0xC000, 0x17)]
      (fun t => t.a == 0x01 && t.f == 0x00 && t.pc == 0xC001) = true := by decide

theorem test_T81_rra :
    after ({ start with a := 0x01 }) [(0xC000, 0x1F)]
      (fun t => t.a == 0x00 && t.f == 0x10 && t.pc == 0xC001) = true := by decide

theorem test_T83_rlc_at_hl :
    after ({ start with h := 0xD0, l := 0x00 }) [(0xC000, 0xCB), (0xC001, 0x06), (0xD000, 0x85)]
      (fun t => t.f == 0x10 && t.pc == 0xC002 && t.peek 0xD000 == 0x0B) = true := by decide

theorem test_T84_rrc_c :
    after ({ start with c := 0x01 }) [(0xC000, 0xCB), (0xC001, 0x09)]
      (fun t => t.f == 0x10 && t.c == 0x80 && t.pc == 0xC002) = true := by decide

theorem test_T85_rl_d :
    after ({ start with d := 0x80 }) [(0xC000, 0xCB), (0xC001, 0x12)]
      (fun t => t.f == 0x90 && t.d == 0x00 && t.pc == 0xC002) = true := by decide

theorem test_T86_rr_e :
    after ({ start with e := 0x01, f := 0x10 }) [(0xC000, 0xCB), (0xC001, 0x1B)]
      (fun t => t.e == 0x80 && t.pc == 0xC002) = true := by decide

theorem test_T87_sla_h :
    after ({ start with h := 0x80 }) [(0xC000, 0xCB), (0xC001, 0x24)]
      (fun t => t.f == 0x90 && t.h == 0x00 && t.pc == 0xC002) = true := by decide

theorem test_T88_sra_l :
    after ({ start with l := 0x81 }) [(0xC000, 0xCB), (0xC001, 0x2D)]
      (fun t => t.f == 0x10 && t.l == 0xC0 && t.pc == 0xC002) = true := by decide

theorem test_T89_swap_a :
    after ({ start with a := 0xF0, f := 0x70 }) [(0xC000, 0xCB), (0xC001, 0x37)]
      (fun t => t.a == 0x0F && t.f == 0x00 && t.pc == 0xC002) = true := by decide

theorem test_T92_srl_at_hl :
    after ({ start with h := 0xD0, l := 0x00 }) [(0xC000, 0xCB), (0xC001, 0x3E), (0xD000, 0x02)]
      (fun t => t.pc == 0xC002 && t.peek 0xD000 == 0x01) = true := by decide

theorem test_T93_bit_7_h :
    after ({ start with h := 0x80, f := 0x10 }) [(0xC000, 0xCB), (0xC001, 0x7C)]
      (fun t => t.f == 0x30 && t.pc == 0xC002) = true := by decide

theorem test_T95_bit_0_at_hl :
    after ({ start with h := 0xD0, l := 0x00 }) [(0xC000, 0xCB), (0xC001, 0x46), (0xD000, 0xFE)]
      (fun t => t.f == 0xA0 && t.pc == 0xC002) = true := by decide

theorem test_T97_res_7_at_hl :
    after ({ start with h := 0xD0, l := 0x00 }) [(0xC000, 0xCB), (0xC001, 0xBE), (0xD000, 0xFF)]
      (fun t => t.pc == 0xC002 && t.peek 0xD000 == 0x7F) = true := by decide

theorem test_T99_set_1_e :
    after ({ start with e := 0x00 }) [(0xC000, 0xCB), (0xC001, 0xCB)]
      (fun t => t.e == 0x02 && t.pc == 0xC002) = true := by decide

theorem test_T101_jp_n16 :
    after start [(0xC000, 0xC3), (0xC001, 0xFE), (0xC002, 0x12)]
      (fun t => t.pc == 0x12FE) = true := by decide

theorem test_T102_jp_nz_n16 :
    after ({ start with f := 0x80 }) [(0xC000, 0xC2), (0xC001, 0x00), (0xC002, 0xD0)]
      (fun t => t.pc == 0xC003) = true := by decide

theorem test_T103_jp_z_n16 :
    after ({ start with f := 0x80 }) [(0xC000, 0xCA), (0xC001, 0x00), (0xC002, 0xD0)]
      (fun t => t.pc == 0xD000) = true := by decide

theorem test_T104_jp_hl :
    after ({ start with h := 0x12, l := 0x34 }) [(0xC000, 0xE9)]
      (fun t => t.pc == 0x1234) = true := by decide

theorem test_T107_jr_e8 :
    after ({ start with pc := 0xFFFE }) [(0xFFFE, 0x18), (0xFFFF, 0x01)]
      (fun t => t.pc == 0x0001) = true := by decide

theorem test_T109_jr_c_e8 :
    after ({ start with f := 0x10 }) [(0xC000, 0x38), (0xC001, 0x05)]
      (fun t => t.pc == 0xC007) = true := by decide

theorem test_T111_call_n16 :
    after ({ start with sp := 0x0001, pc := 0xD000 }) [(0xD000, 0xCD), (0xD001, 0x00), (0xD002, 0xC0)]
      (fun t => t.sp == 0xFFFF && t.pc == 0xC000 && t.peek 0x0000 == 0xD0 && t.peek 0xFFFF == 0x03) = true := by decide

theorem test_T112_call_c_n16 :
    after ({ start with f := 0x00 }) [(0xC000, 0xDC), (0xC001, 0x34), (0xC002, 0x12)]
      (fun t => t.pc == 0xC003) = true := by decide

theorem test_T114_ret_nz :
    after ({ start with f := 0x80, sp := 0xFFFC }) [(0xC000, 0xC0), (0xFFFC, 0x03), (0xFFFD, 0xC0)]
      (fun t => t.pc == 0xC001) = true := by decide

theorem test_T115_ret_z :
    after ({ start with f := 0x80, sp := 0xFFFC }) [(0xC000, 0xC8), (0xFFFC, 0x03), (0xFFFD, 0xC0)]
      (fun t => t.sp == 0xFFFE && t.pc == 0xC003) = true := by decide

theorem test_T116_reti :
    after ({ start with sp := 0xFFFC }) [(0xC000, 0xD9), (0xFFFC, 0x03), (0xFFFD, 0xC0)]
      (fun t => t.sp == 0xFFFE && t.pc == 0xC003 && t.ime) = true := by decide

theorem test_T118_rst_00 :
    after ({ start with pc := 0x0000 }) [(0x0000, 0xC7)]
      (fun t => t.sp == 0xFFFC && t.peek 0xFFFD == 0x00 && t.peek 0xFFFC == 0x01) = true := by decide

theorem test_T121_di :
    after ({ start with ime := true, eiPending := true }) [(0xC000, 0xF3)]
      (fun t => t.pc == 0xC001 && !t.ime && !t.eiPending) = true := by decide

theorem test_T124_halt :
    after ({ start with ime := true }) [(0xC000, 0x76)]
      (fun t => t.pc == 0xC001 && t.mode == .halted) = true := by decide

theorem test_T128_stop :
    after start [(0xC000, 0x10), (0xC001, 0xFF)]
      (fun t => t.pc == 0xC002 && t.mode == .stopped) = true := by decide

/-- T129: an unclaimed byte faults before anything executes (60_exceptions.md R320). -/
theorem test_T129_unimplemented :
    step (put start [(0xC000, 0xD3)]) = .fault (.unimplementedOpcode .primary 0xD3) := rfl

/-- T131: the pending interrupt with the lowest bit is taken (60_exceptions.md R324, R327). -/
theorem test_T131_dispatch :
    after { start with ime := true } [(0xC000, 0x00), (0xFF0F, 0x06), (0xFFFF, 0x1F)]
      (fun t => t.sp == 0xFFFC && t.pc == 0x0048 && !t.ime && t.peek 0xFFFD == 0xC0 && t.peek 0xFF0F == 0x04 &&
        t.result == some (.dispatched .lcdStat)) = true := by decide

/-- T132: bits 7..5 of IF request nothing and are kept (10_state.md R36). -/
theorem test_T132_dispatch_upper_bits :
    after { start with ime := true } [(0xC000, 0x00), (0xFF0F, 0xF0), (0xFFFF, 0x1F)]
      (fun t => t.pc == 0x0060 && t.peek 0xFF0F == 0xE0) = true := by decide

/-- T134: with IME clear nothing is taken (R323). -/
theorem test_T134_no_dispatch_without_ime :
    after start [(0xC000, 0x00), (0xFF0F, 0x01), (0xFFFF, 0x01)] (fun t => t.pc == 0xC001) = true := by decide

/-- T122, its second step: `EI`'s IME is set by the instruction after it (30_encoding.md R104). -/
theorem test_T122_ei_delay_ends :
    after { start with eiPending := true } [(0xC000, 0x00)] (fun t => t.ime && !t.eiPending) = true := by decide

/-- T123, its second step: `DI` after `EI` leaves IME clear. -/
theorem test_T123_di_after_ei :
    after { start with eiPending := true } [(0xC000, 0xF3)] (fun t => !t.ime && !t.eiPending) = true := by decide

/-- T126, its first step: `HALT` with IME = 0 and an interrupt pending does not halt (47_system.md R302). -/
theorem test_T126_halt_bug :
    after start [(0xC000, 0x76), (0xFF0F, 0x01), (0xFFFF, 0x01)]
      (fun t => t.mode == .running && t.haltBug && t.pc == 0xC001) = true := by decide

/-- T126, its second step: PC does not advance past the opcode byte (30_encoding.md R100). -/
theorem test_T126_halt_bug_fetch :
    after { start with haltBug := true } [(0xC000, 0x3C), (0xFF0F, 0x01), (0xFFFF, 0x01)]
      (fun t => t.a == 0x01 && t.pc == 0xC000 && !t.haltBug) = true := by decide

/-- By hand from R100: under `halt_bug` the byte at PC is the opcode and its operand both. -/
theorem test_halt_bug_operand :
    after { start with haltBug := true } [(0xC000, 0x06)] (fun t => t.b == 0x06 && t.pc == 0xC001) = true := by decide

/-- T125, its second step: a Halted core with nothing pending idles (60_exceptions.md R332). -/
theorem test_T125_halted_idles :
    after { start with mode := .halted } [(0xFFFF, 0x01)]
      (fun t => t.mode == .halted && t.pc == 0xC000 && t.result == some .idle) = true := by decide

/-- T136, its second step: the environment sets IF bit 2 and the Halted core wakes, IME or not (R331, R332). -/
theorem test_T136_env_wakes :
    after { start with mode := .halted, env := [⟨4, false⟩] } [(0xFFFF, 0x04)]
      (fun t => t.mode == .running && t.result == some .woken && t.peek 0xFF0F == 0x04 && t.writes == []) = true := by
  decide

/-- T127, its second step: a Stopped core idles (R333). -/
theorem test_T127_stopped_idles :
    after { start with mode := .stopped } [(0xFF0F, 0x01), (0xFFFF, 0x01)]
      (fun t => t.mode == .stopped && t.result == some .idle) = true := by decide

/-- By hand from R331 and R333: a wake action sets a Stopped core running, and the same step executes. -/
theorem test_stopped_wakes :
    after { start with mode := .stopped, env := [⟨0, true⟩] } [(0xC000, 0x3C)]
      (fun t => t.mode == .running && t.a == 0x01) = true := by decide

/-- By hand from 20_memory.md R57 and R69: `PUSH BC` emits the high byte's event first, with the old bytes. -/
theorem test_push_events :
    after { start with b := 0x12, c := 0x34 } [(0xC000, 0xC5), (0xFFFD, 0x99)]
      (fun t => t.writes == [⟨0xFFFD, 0x99, 0x12⟩, ⟨0xFFFC, 0x00, 0x34⟩]) = true := by decide

/-- By hand from 20_memory.md R53: a write of the byte an unlisted address reads as removes the entry. -/
theorem test_memory_canonical : Memory.write [(0x10, 0x01), (0x20, 0x02)] 0x10 0x00 = [(0x20, 0x02)] := by decide

/-! ## The Bus, the catalog -/

/-- By hand from 30_encoding.md R100 and 20_memory.md R59: a fetch reads the bytes of the instruction and no other, each
once: one for `NOP`, two after the prefix, three for `JP n16`, one for an unclaimed byte. -/
theorem test_fetch_reads :
    let reads (b : Byte) := (put start [(0xC000, b)]).fetchReads
    reads 0x00 = [.read 0xC000] ∧ reads 0xCB = [.read 0xC000, .read 0xC001] ∧
      reads 0xC3 = [.read 0xC000, .read 0xC001, .read 0xC002] ∧ reads 0xD3 = [.read 0xC000] := by decide

/-- A Bus on which reading a byte clears it. -/
def clearing : Bus where
  read m a := (m.mem.read a, { m with mem := m.mem.write a 0 })
  write m a v := { m with mem := m.mem.write a v }
  peek m a := m.mem.read a

/-- By hand from 20_memory.md R50: behind such a Bus `LD A, [HL]` loads the byte and leaves zero there. -/
theorem test_read_side_effect (n : Nat) (h : Config.otherBus n = clearing) (s t : State) (hb : s.cfg.bus = .other n)
    (ht : exec .ldAAtHL s = .next t) : t.a = s.peek s.hl ∧ t.m.mem = (s.m.mem.write s.hl 0).canonical := by
  cases ht
  constructor
  · simp [State.atHL, State.readByte, State.peek, hb, busOf, h, Bus.canonical, clearing]
  · simp [hb, busOf, h, Bus.canonical, clearing]

/-- A Bus that ignores writes. -/
def readOnly : Bus where
  read m a := (m.mem.read a, m)
  write m _ _ := m
  peek m a := m.mem.read a

/-- By hand from 20_memory.md R50, R57: behind it a store leaves memory, and its event still reports the write. -/
theorem test_read_only (n : Nat) (h : Config.otherBus n = readOnly) (s : State) (hb : s.cfg.bus = .other n)
    (a : Word) (v : Byte) :
    (s.memWrite a v).m.mem = s.m.mem.canonical ∧ (s.memWrite a v).writes = s.writes ++ [⟨a, s.m.mem.read a, v⟩] := by
  simp [State.peek, hb, busOf, h, Bus.canonical, readOnly]

/-- 30_encoding.md R85: every definition is well formed; one whose fields overlap is not. -/
theorem test_catalog_wf : catalog.all Definition.wf = true ∧
    Definition.wf ⟨"", .primary, 0xF8, 0x80, [⟨.src, .inner ⟨0x0F, .reg8⟩⟩]⟩ = false := by decide

/-- 30_encoding.md R88: the field of `LD r8, r8` for the destination D in 0x50 is 2, and gives bits 5..3 back. -/
theorem test_inner_contributes :
    Inner.field ⟨0x38, .reg8⟩ 0x50 = 2 ∧ Inner.contributes ⟨0x38, .reg8⟩ 2 = 0x10 := by decide

/-- By hand from 30_encoding.md R106 and 92_eei_decisions.md D25: `JP` writes PC and may report it; `NOP`, which only
advances PC, and an idle step may report nothing. -/
theorem test_register_events :
    let reported (s : State) := (stepped s).map (fun t => (stepWrites s t, reports (stepWrites s t) t ⟨.pc, t.pc⟩))
    reported (put start [(0xC000, 0xC3)]) = some ([.pc], true) ∧ reported start = some ([], false) ∧
      reported { start with mode := .halted } = some ([], false) := by decide

/-! ## Reset and the host's interface -/

/-- The reset state is LoadRom's, for the default parameters and an image that lists nothing (log entry 3). -/
theorem test_reset_is_loadRom : State.reset = State.loadRom Launch.default Config.default ⟨[], []⟩ [] := by decide

/-- 70_reset_and_hazards.md R361: MGB with a header checksum that is not zero. -/
theorem test_reset_mgb :
    (State.loadRom Launch.default { Config.default with model := .mgb } ⟨[(0x014D, 0x01)], []⟩ []).af = 0xFFB0 := by decide

/-- 00_scope.md R8: another RESET_REGS and another ROM_VALID, which turns away an image without a header. -/
def otherLaunch : Launch where
  resetRegs _ _ := ⟨0x01, 0x00, 0xFF, 0x13, 0x00, 0xC1, 0x84, 0x03⟩
  romFailure bytes _ := if bytes.length < 0x150 then some .undersized else none

/-- 60_exceptions.md R347: the image that ROM_VALID turns away disturbs nothing, and the reason is reported. -/
theorem test_loadRom_fails :
    let h : Wrapper := ⟨start, .unloaded, []⟩
    h.loadRom otherLaunch [0x00] .dmg ⟨[], []⟩ = (h, .loadFailed .undersized) ∧
      (h.loadRom Launch.default [0x00] .dmg ⟨[], []⟩).1.execMode = .paused := by decide

/-- 60_exceptions.md R347: a console variant of its own registers. -/
theorem test_loadRom_other_model :
    (State.loadRom otherLaunch { Config.default with model := .other 0 } ⟨[], []⟩ []).hl = 0x8403 := by decide

/-- The table's number of an extended row has the prefix in bits 15..8; a word's first byte is in bits 7..0 (log
entry 11). -/
theorem test_table_words :
    decodeTableWord 8 0x78 = some .ldAB ∧ decodeTableWord 16 0xCB7C = some .bit7H ∧
    decodeTableWord 24 0x1234C3 = some (.jpN16 0x1234) ∧ decodeTableWord 8 0xC3 = some (.jpN16 0x0000) ∧
    decodeTableWord 8 0xD3 = none := by decide

/-- The very next step runs the placed instruction. -/
theorem test_withFetchWord :
    (stepped (State.reset.withFetchWord 16 0xCB7C)).map (fun t => (t.pc, t.f)) = some (0x0102, 0xA0) := by decide

/-! ## Witnesses: states and operands that meet each statement's hypotheses -/

/-- A state with HALT just executed under the HALT bug's condition: reachable in one step. -/
def bugImage : Memory := [(0x0100, 0x76), (0xFF0F, 0x01), (0xFFFF, 0x01)]

def bugStart : State := State.loadRom Launch.default Config.default ⟨bugImage, []⟩ []

theorem test_witness_Launch_wf : Launch.default.wf := by
  intro model checksum
  have free (x : Byte) : x &&& 0xF0 &&& 0x0F = 0 := by rw [BitVec.and_assoc]; exact BitVec.and_zero
  have flags : (if checksum == 0 then 0x80 else 0xB0 : Byte) &&& 0x0F = 0 := by split <;> rfl
  have clear : (0x00 : Byte) &&& 0x0F = 0 ∧ (0x80 : Byte) &&& 0x0F = 0 := by decide
  cases model <;> first | exact flags | exact clear.1 | exact clear.2 | exact free _

def bugState : State := { bugStart with pc := 0x0101, haltBug := true, result := some .executed }

theorem test_bug_step : step bugStart = .next bugState := rfl

theorem test_bug_reachable : bugState.Reachable :=
  .stepped (.loaded Launch.default Config.default ⟨bugImage, []⟩ [] test_witness_Launch_wf (by decide)) test_bug_step

/-- Each condition holds in some state, and fails in another (the conditional transfers). -/
theorem test_witness_conditions : ∀ cc, (∃ s, holds cc s) ∧ ∃ s, ¬ holds cc s := by
  intro cc
  cases cc
  · exact ⟨⟨start, rfl⟩, ⟨{ start with f := 0xF0 }, fun h => absurd (show true = false from h) (by decide)⟩⟩
  · exact ⟨⟨{ start with f := 0xF0 }, rfl⟩, ⟨start, fun h => absurd (show false = true from h) (by decide)⟩⟩
  · exact ⟨⟨start, rfl⟩, ⟨{ start with f := 0xF0 }, fun h => absurd (show true = false from h) (by decide)⟩⟩
  · exact ⟨⟨{ start with f := 0xF0 }, rfl⟩, ⟨start, fun h => absurd (show false = true from h) (by decide)⟩⟩

/-- Both ends of the decimal range. -/
theorem test_witness_DecimalAdjustIsDecimalArithmetic :
    (99 < 100 ∧ 1 < 100 ∧ ({ start with a := 0x99 } : State).a = bcd 99) ∧
    (0 < 100 ∧ 99 < 100 ∧ start.a = bcd 0) := by decide

/-- `HALT`: the bug's condition, and its failure in each of its three parts. -/
theorem test_witness_HaltOrHaltBug :
    let p (s : State) : Prop := s.ime = false ∧ s.peek 0xFFFF &&& s.peek 0xFF0F &&& 0x1F ≠ 0 ∧ s.cfg.haltBug = true
    p bugStart ∧ ¬ p start ∧ ¬ p { bugStart with ime := true } ∧
      ¬ p { bugStart with cfg := { Config.default with haltBug := false } } := by
  decide

theorem test_witness_InterruptEntryEffect :
    let s₀ := atStart { bugStart with ime := true }
    s₀.mode = .running ∧ s₀.cfg.irqDispatch = true ∧ s₀.ime = true ∧
      (s₀.peek 0xFFFF &&& s₀.peek 0xFF0F &&& 0x1F).getLsbD Irq.vblank.bit = true ∧
      ∀ j, j < Irq.vblank.bit → (s₀.peek 0xFFFF &&& s₀.peek 0xFF0F &&& 0x1F).getLsbD j = false := by
  decide

/-- The highest source, with the stack over IF itself. -/
theorem test_witness_InterruptEntryEffect_joypad :
    let s₀ := atStart (put { start with ime := true, sp := 0xFF11 } [(0xFF0F, 0x10), (0xFFFF, 0x1F)])
    s₀.mode = .running ∧ s₀.cfg.irqDispatch = true ∧ s₀.ime = true ∧ s₀.sp - 2 = 0xFF0F ∧
      (s₀.peek 0xFFFF &&& s₀.peek 0xFF0F &&& 0x1F).getLsbD Irq.joypad.bit = true ∧
      ∀ j, j < Irq.joypad.bit → (s₀.peek 0xFFFF &&& s₀.peek 0xFF0F &&& 0x1F).getLsbD j = false := by
  decide

theorem test_witness_StoppedCoreIdles : (atStart { start with mode := .stopped }).mode = .stopped := by decide

theorem test_witness_HaltedCoreIdlesOrWakes :
    let s := { start with mode := .halted }
    let t := put s [(0xFF0F, 0x10), (0xFFFF, 0xFF)]
    ((atStart s).mode = .halted ∧ (atStart s).peek 0xFFFF &&& (atStart s).peek 0xFF0F &&& 0x1F = 0) ∧
    ((atStart t).mode = .halted ∧ (atStart t).peek 0xFFFF &&& (atStart t).peek 0xFF0F &&& 0x1F ≠ 0) := by
  decide

/-- The default Bus is the flat one, at reset and in every vector. -/
theorem test_witness_Flat : Flat State.reset ∧ Flat start := ⟨rfl, rfl⟩

theorem test_witness_StepRunsTheDecodedInstruction :
    let s₀ := atStart (put start [(0xC000, 0xC3), (0xC001, 0x34), (0xC002, 0x12)])
    s₀.mode = .running ∧ NoIrq s₀ ∧ FetchesTo (encode (.jpN16 0x1234)) s₀ s₀ ∧ Flat s₀ ∧
      decodeWindow (s₀.peek 0xC000) (s₀.peek 0xC001) (s₀.peek 0xC002) = .ok (.jpN16 0x1234, 3) :=
  ⟨rfl, .inr (.inl rfl), ⟨rfl, rfl, rfl, rfl⟩, rfl, rfl⟩

/-- The same under `halt_bug`, where the operand bytes begin at PC itself. -/
theorem test_witness_StepRunsTheDecodedInstruction_haltBug :
    let s₀ := atStart bugState
    let s₁ := atStart (put { start with haltBug := true } [(0xC000, 0x06)])
    s₀.mode = .running ∧ NoIrq s₀ ∧ s₀.haltBug = true ∧ FetchesTo (encode .nop) s₀ s₀ ∧
      decodeWindow (s₀.peek 0x0101) (s₀.peek 0x0101) (s₀.peek 0x0102) = .ok (.nop, 1) ∧
      FetchesTo (encode (.ldBN8 0x06)) s₁ s₁ :=
  ⟨rfl, .inr (.inl rfl), rfl, ⟨rfl, rfl⟩, rfl, ⟨rfl, rfl, rfl⟩⟩

/-- A fault's left side and its right side, at the lowest and the highest of the eleven bytes. -/
theorem test_witness_FaultsExactlyOnUnclaimedBytes :
    step (put start [(0xC000, 0xD3)]) = .fault (.unimplementedOpcode .primary 0xD3) ∧
    step (put start [(0xC000, 0xFD)]) = .fault (.unimplementedOpcode .primary 0xFD) ∧
    (0xD3 : Byte) ∈ unclaimed ∧ (0xFD : Byte) ∈ unclaimed :=
  ⟨rfl, rfl, by decide, by decide⟩

/-- IME rises by the delay of `EI`, and by `RETI`; and `EI` leaves `ei_pending` set. -/
theorem test_witness_WhatRaisesImeAndEiPending :
    after { start with eiPending := true } [] (fun t => t.ime) = true ∧
    after start [(0xC000, 0xD9)] (fun t => t.ime) = true ∧
    after start [(0xC000, 0xFB)] (fun t => t.eiPending && t.result == some .executed) = true := by
  decide

theorem test_witness_OnlyHaltAndStopLeaveRunning :
    after start [(0xC000, 0x76)] (fun t => t.mode != .running) = true ∧
    after start [(0xC000, 0x10)] (fun t => t.mode != .running) = true ∧ (atStart start).mode = .running := by
  decide

/-- A step that emits three events, where the second and third write the same byte. -/
theorem test_witness_EventsAccountForMemory : Flat start ∧
    after { start with ime := true, sp := 0xFF11 } [(0xFF0F, 0x10), (0xFFFF, 0x1F)]
      (fun t => t.writes.length == 3) = true :=
  ⟨rfl, by decide⟩

theorem test_witness_ParametersNeverChange :
    after { start with env := [⟨1, true⟩, ⟨2, false⟩] } [] (fun t => t.env == [⟨2, false⟩]) = true := by decide

/-- One step of each kind: it idles, it wakes, it takes an interrupt, it executes `NOP`, it executes a jump. -/
theorem test_witness_EventsComeFromExecution :
    after { start with mode := .halted } [] (fun t => t.result == some .idle) = true ∧
    after { start with mode := .halted } [(0xFF0F, 0x01), (0xFFFF, 0x01)] (fun t => t.result == some .woken) = true ∧
    after { start with ime := true } [(0xFF0F, 0x01), (0xFFFF, 0x01)]
      (fun t => t.result == some (.dispatched .vblank)) = true ∧
    after start [] (fun t => t.result == some .executed) = true ∧ (atStart start).decodeNext = .ok (.nop, 1) ∧
    (atStart (put start [(0xC000, 0xE9)])).decodeNext = .ok (.jpHL, 1) ∧ .pc ∈ registersWritten .jpHL ∧
    exec .nop start = .next start ∧ ∀ q ∈ RegName.af.cells, q ∉ registersWritten .nop :=
  ⟨by decide, by decide, by decide, by decide, rfl, rfl, by decide, rfl, by decide⟩

/-- An image that ROM_VALID accepts and one it turns away. -/
theorem test_witness_ResetLeavesTheHandOverState :
    Launch.default.romFailure [] .dmg = none ∧ otherLaunch.romFailure [0x00] .dmg = some .undersized := by decide

theorem test_witness_ResetMeetsInvariant : Launch.default.wf ∧ Memory.wf bugImage :=
  ⟨test_witness_Launch_wf, by decide⟩

/-- A state with `halt_bug` set meets the invariant, and steps. -/
theorem test_witness_StepKeepsInvariant : bugState.Inv ∧ (stepped bugState).isSome = true :=
  ⟨⟨by decide, by decide, by decide, by decide⟩, by decide⟩

theorem test_witness_NoInterruptUnderHaltBug :
    bugState.Reachable ∧ bugState.haltBug = true ∧ (stepped bugState).isSome = true :=
  ⟨test_bug_reachable, rfl, by decide⟩

theorem test_witness_DecodeOfEncode :
    (Instr.jrE8 0xFF80).wf = true ∧ (Instr.jrE8 0x007F).wf = true ∧ (Instr.ldSPN16 0xFFFF).wf = true ∧
      Instr.set7A.wf = true := by decide

theorem test_witness_EncodeOfDecode : decode [0x18, 0x80, 0x76] = .ok (.jrE8 0xFF80, [0x76]) := rfl

end Sys2Proof.Tests
end

section
/-! PROOFS of the family 00_scope.md: what no step changes (R8), the environment's action it uses up (60_exceptions.md
R331), and its success marker (30_encoding.md R105). -/

namespace Sys2Proof.Machine

/-- No instruction changes the launch parameters, the environment's actions or the step's success marker. -/
theorem Effect.cfg_env_result {i : Instr} {s t : State} (h : Effect i s t) :
    t.cfg = s.cfg ∧ t.env = s.env ∧ t.result = s.result := by
  cases h with
  | plain h => exact ⟨h.cfg, h.env, h.result⟩
  | reti _ _ _ hp => exact ⟨hp.cfg, hp.env, hp.result⟩
  | di _ ht | ei _ ht | haltBug _ _ ht | halt _ _ ht | stop _ _ ht => subst ht; exact ⟨rfl, rfl, rfl⟩

/-- The core's part of a step keeps the launch parameters and the environment's actions, and sets a success marker: each
branch its own. -/
theorem StepCase.cfg_env_result {s₀ t : State} (h : StepCase s₀ t) :
    t.cfg = s₀.cfg ∧ t.env = s₀.env ∧ t.result ≠ none := by
  cases h with
  | stopped _ ht | halted _ _ ht | woken _ _ ht => subst ht; exact ⟨rfl, rfl, Option.some_ne_none _⟩
  | dispatched k _ _ ht =>
    subst ht
    exact ⟨s₀.interruptEntry_cfg k, s₀.interruptEntry_env k, Option.some_ne_none _⟩
  | executed i n m _ _ _ _ he =>
    obtain ⟨hcfg, henv, hresult⟩ := he.cfg_env_result
    exact ⟨hcfg, henv, by rw [hresult, State.enter_result]; exact Option.some_ne_none _⟩

/-- Settles O53: of a step's two parts, only the environment's takes an action, and no branch of the core's part touches
the parameters or leaves the success marker unset. -/
theorem parametersNeverChange : Obligations.ParametersNeverChange := by
  intro s t h
  obtain ⟨hcfg, henv, hresult⟩ := (step_cases h).cfg_env_result
  exact ⟨hcfg.trans s.applyEnv_cfg, henv.trans s.applyEnv_env, hresult⟩

end Sys2Proof.Machine
end

section
/-! PROOFS of the family 10_state.md: the invariant (R25; `ei_pending`, 30_encoding.md R104; `halt_bug`, 60_exceptions.md
R328) at reset and over every step; what raises IME and `ei_pending` (R32, R33); what leaves Running (R34); the register
pairs (R21). -/

namespace Sys2Proof.Machine

/-! ## The invariant where `halt_bug` is clear -/

/-- Without `halt_bug`, the invariant is about F, memory and `ei_pending`. -/
theorem State.Inv.of_haltBug_false {s : State} (hf : s.f &&& 0x0F = 0) (hm : s.m.mem.wf)
    (he : s.eiPending = true → s.mode = .running) (hb : s.haltBug = false) : s.Inv :=
  ⟨hf, hm, he, fun h => absurd (hb.symm.trans h) Bool.false_ne_true⟩

/-- The invariant allows `halt_bug` in a running core with IME = 0 only. -/
theorem State.Inv.haltBug_false {s : State} (h : s.Inv) (hs : s.mode ≠ .running ∨ s.ime = true) :
    s.haltBug = false := by
  rw [← Bool.not_eq_true]
  intro hb
  obtain ⟨hmode, hime, -⟩ := h.haltBugRuns hb
  rcases hs with hs | hs
  · exact hs hmode
  · exact absurd (hime.symm.trans hs) Bool.false_ne_true

/-! ## The step keeps the invariant -/

/-- The environment keeps the invariant: it stops no running core and withdraws no request. -/
theorem State.Inv.applyEnv {s : State} (h : s.Inv) : s.applyEnv.Inv where
  flagsLow := by rw [State.applyEnv_f]; exact h.flagsLow
  memory := s.applyEnv_wf h.memory
  eiPendingRuns he := s.applyEnv_mode_running (h.eiPendingRuns (s.applyEnv_eiPending ▸ he))
  haltBugRuns hb := by
    obtain ⟨hmode, hime, hei, hcfg, hpending⟩ := h.haltBugRuns (s.applyEnv_haltBug ▸ hb)
    simp only [State.applyEnv_ime, State.applyEnv_eiPending, State.applyEnv_cfg]
    exact ⟨s.applyEnv_mode_running hmode, hime, hei, hcfg, fun hf => s.applyEnv_pending hf (hpending hf)⟩

/-- The invariant does not see the outputs of a step. -/
theorem State.Inv.clearEvents {s : State} (h : s.Inv) : s.clearEvents.Inv :=
  ⟨h.flagsLow, h.memory, h.eiPendingRuns, h.haltBugRuns⟩

theorem State.Inv.setResult {s : State} (h : s.Inv) (r : StepResult) : { s with result := some r }.Inv :=
  ⟨h.flagsLow, h.memory, h.eiPendingRuns, h.haltBugRuns⟩

/-- A plain change keeps memory's canonical form: it is made of transactions of the Bus. -/
theorem Plain.memory_wf {s t : State} (h : Plain s t) (hm : s.m.mem.wf) : t.m.mem.wf := by
  obtain ⟨l, -, hl⟩ := h.accesses
  have htm : t.m = (busOf s.cfg.bus).after l s.m := (congrArg Prod.fst hl).trans (transact_fst _ _ _ _)
  rw [htm]
  exact busOf_after_wf _ _ _ hm

/-- Executing an instruction in a running core, with `halt_bug` and `ei_pending` cleared by phases I3 and I4, gives a
state of the invariant: only `EI` sets `ei_pending` and only `HALT` sets `halt_bug`, each in a core that stays Running. -/
theorem Effect.inv {i : Instr} {s t : State} (h : Effect i s t) (hf : s.f &&& 0x0F = 0) (hm : s.m.mem.wf)
    (hrun : s.mode = .running) (he : s.eiPending = false) (hb : s.haltBug = false) : t.Inv := by
  cases h with
  | plain h | reti _ _ _ h =>
    exact .of_haltBug_false (h.flagsLow hf) (h.memory_wf hm) (fun _ => h.mode.trans hrun) (h.haltBug.trans hb)
  | di _ ht | ei _ ht => subst ht; exact .of_haltBug_false hf hm (fun _ => hrun) hb
  | haltBug _ hp ht =>
    subst ht
    obtain ⟨hime, hpending, hcfg⟩ := hp
    exact ⟨hf, hm, fun _ => hrun, fun _ => ⟨hrun, hime, he, hcfg, fun _ => hpending⟩⟩
  | halt _ _ ht | stop _ _ ht =>
    subst ht
    exact .of_haltBug_false hf hm (fun h => absurd (he.symm.trans h) Bool.false_ne_true) hb

/-- An interrupt is taken with IME set only (R323). -/
theorem State.ime_of_irqToTake {s : State} {k : Irq} (hk : s.irqToTake = some k) : s.ime = true := by
  rw [← Bool.not_eq_false]
  intro h0
  rw [s.irqToTake_eq_none_iff.mpr (.inr (.inl h0))] at hk
  cases hk

/-- Each branch of the core's part of a step keeps the invariant: one in which `halt_bug` could be set cannot be a wake
or an interrupt, and executing clears it first. -/
theorem StepCase.inv {s₀ t : State} (h : StepCase s₀ t) (hi : s₀.Inv) : t.Inv := by
  cases h with
  | stopped _ ht | halted _ _ ht => subst ht; exact hi.setResult _
  | woken hm _ ht =>
    subst ht
    have hb : s₀.haltBug = false := hi.haltBug_false (.inl (by rw [hm]; decide))
    exact .of_haltBug_false hi.flagsLow hi.memory (fun _ => rfl) hb
  | dispatched k hm hk ht =>
    subst ht
    have hb : s₀.haltBug = false := hi.haltBug_false (.inr (State.ime_of_irqToTake hk))
    exact .of_haltBug_false hi.flagsLow (s₀.interruptEntry_wf k hi.memory) (fun _ => hm) hb
  | executed i n m hm _ _ hr he =>
    subst hr
    exact he.inv hi.flagsLow (busOf_after_wf _ _ _ hi.memory) hm rfl rfl

/-- Settles O55: the environment keeps the invariant, and then each branch of the step does. -/
theorem stepKeepsInvariant : Obligations.StepKeepsInvariant := by
  intro s t hi h
  exact (step_cases h).inv hi.applyEnv.clearEvents

/-! ## IME, `ei_pending` and the mode -/

/-- Only `RETI` sets IME. -/
theorem Effect.ime_of_ime {i : Instr} {s t : State} (h : Effect i s t) (ht : t.ime = true) :
    s.ime = true ∨ i = .reti := by
  cases h with
  | plain h => exact .inl (h.ime.symm.trans ht)
  | reti hi => exact .inr hi
  | di _ h => subst h; cases ht
  | ei _ h | haltBug _ _ h | halt _ _ h | stop _ _ h => subst h; exact .inl ht

/-- Only `EI` sets `ei_pending`. -/
theorem Effect.eiPending_of_eiPending {i : Instr} {s t : State} (h : Effect i s t) (ht : t.eiPending = true) :
    s.eiPending = true ∨ i = .ei := by
  cases h with
  | plain h | reti _ _ _ h => exact .inl (h.eiPending.symm.trans ht)
  | ei hi => exact .inr hi
  | di _ h => subst h; cases ht
  | haltBug _ _ h | halt _ _ h | stop _ _ h => subst h; exact .inl ht

/-- Only `HALT` and `STOP` change the mode. -/
theorem Effect.mode_eq_or {i : Instr} {s t : State} (h : Effect i s t) :
    t.mode = s.mode ∨ i = .halt ∨ ∃ b, i = .stop b := by
  cases h with
  | plain h | reti _ _ _ h => exact .inl h.mode
  | di _ h | ei _ h | haltBug _ _ h => subst h; exact .inl rfl
  | halt hi => exact .inr (.inl hi)
  | stop b hi => exact .inr (.inr ⟨b, hi⟩)

/-- The core's part of a step leaves IME set only where it was, where `EI` waited, or by `RETI`. -/
theorem StepCase.ime_of_ime {s₀ t : State} (h : StepCase s₀ t) (ht : t.ime = true) :
    s₀.ime = true ∨ s₀.eiPending = true ∨ ∃ n, s₀.decodeNext = .ok (.reti, n) := by
  cases h with
  | stopped _ h | halted _ _ h | woken _ _ h => subst h; exact .inl ht
  | dispatched k _ _ h => subst h; cases ht
  | executed i n m _ _ hd _ he =>
    rcases he.ime_of_ime ht with h | rfl
    · rw [State.enter_ime, Bool.or_eq_true] at h
      exact h.imp_right .inl
    · exact .inr (.inr ⟨n, hd⟩)

/-- A step that executes ends with `ei_pending` set only by `EI`; the other branches leave another marker. -/
theorem StepCase.ei_of_eiPending {s₀ t : State} (h : StepCase s₀ t) (hr : t.result = some .executed)
    (ht : t.eiPending = true) : ∃ n, s₀.decodeNext = .ok (.ei, n) := by
  cases h with
  | stopped _ h | halted _ _ h | woken _ _ h | dispatched _ _ _ h => subst h; cases hr
  | executed i n m _ _ hd _ he =>
    rcases he.eiPending_of_eiPending ht with h | rfl
    · cases h
    · exact ⟨n, hd⟩

/-- The core's part of a step leaves Running only by `HALT` or `STOP`. -/
theorem StepCase.halt_or_stop {s₀ t : State} (h : StepCase s₀ t) (hrun : s₀.mode = .running) (ht : t.mode ≠ .running) :
    ∃ n, s₀.decodeNext = .ok (.halt, n) ∨ ∃ b, s₀.decodeNext = .ok (.stop b, n) := by
  cases h with
  | stopped _ h | halted _ _ h | dispatched _ _ _ h => subst h; exact absurd hrun ht
  | woken _ _ h => subst h; exact absurd rfl ht
  | executed i n m _ _ hd _ he =>
    rcases he.mode_eq_or with h | rfl | ⟨b, rfl⟩
    · exact absurd (h.trans hrun) ht
    · exact ⟨n, .inl hd⟩
    · exact ⟨n, .inr ⟨b, hd⟩⟩

/-- Settles O49: the environment touches neither IME nor `ei_pending`, so both come from the core's part. -/
theorem whatRaisesImeAndEiPending : Obligations.WhatRaisesImeAndEiPending := by
  intro s t h
  have hc := step_cases h
  refine ⟨fun h0 h1 => ?_, hc.ei_of_eiPending⟩
  have hraise := hc.ime_of_ime h1
  simp only [State.clearEvents_ime, State.clearEvents_eiPending, State.applyEnv_ime, State.applyEnv_eiPending, h0,
    Bool.false_eq_true, false_or] at hraise
  exact hraise

/-- Settles O50, by the branches of the core's part of the step. -/
theorem onlyHaltAndStopLeaveRunning : Obligations.OnlyHaltAndStopLeaveRunning := by
  intro s t h
  exact (step_cases h).halt_or_stop

/-! ## Register pairs and reset -/

/-- Settles O41: a pair is the concatenation of its halves, and writing it writes the halves of the value. -/
theorem pairsAreTheirHalves : Obligations.PairsAreTheirHalves := by
  intro s v
  exact ⟨toNat_concat _ _, toNat_concat _ _, toNat_concat _ _, toNat_concat _ _, s.bc_setBC v, s.de_setDE v,
    s.hl_setHL v⟩

/-- What LoadRom leaves meets the invariant, where RESET_REGS keeps R361's limit and the image is canonical. -/
theorem State.loadRom_inv {p : Launch} (hp : p.wf) (cfg : Config) {mem0 : BusState} (hm : mem0.mem.wf)
    (env : List EnvAction) : (State.loadRom p cfg mem0 env).Inv :=
  .of_haltBug_false (hp _ _) hm (fun _ => rfl) rfl

/-- Settles O54: reset clears `halt_bug` and runs the core, and its F and memory are what the launch gives. -/
theorem resetMeetsInvariant : Obligations.ResetMeetsInvariant :=
  ⟨.of_haltBug_false (by decide) Memory.wf_nil (fun _ => rfl) rfl,
    fun _ cfg _ env hp hm => State.loadRom_inv hp cfg hm env⟩

end Sys2Proof.Machine
end

section
/-! PROOFS of the family 20_memory.md: the flat Bus is an array of bytes (R50, R55, R64), and the MemoryWrite events of a
step account for every change of memory (R57; 30_encoding.md R106). -/

namespace Sys2Proof.Machine

open Sys2Proof.Claims

/-! ## The flat Bus, byte by byte -/

section Flat
variable {s : State} (h : Flat s)
include h

/-- A read of the flat Bus returns the byte that peek shows. -/
theorem State.readByte_eq_peek_of_flat (a : Word) : s.readByte a = s.peek a :=
  (State.readByte_flat h a).trans (State.peek_flat h a).symm

/-- What peek shows after a store: the stored byte there, what it showed elsewhere. -/
theorem State.peek_memWrite_flat (a : Word) (v : Byte) (x : Word) :
    (s.memWrite a v).peek x = if x = a then v else s.peek x := by
  have h' : Flat (s.memWrite a v) := h
  rw [State.peek_flat h', State.memWrite_flat h, State.peek_flat h]
  exact Memory.read_write _ _ _ _

end Flat

/-- Settles O1, by the laws of the flat Bus. -/
theorem flatBusIsAByteArray : Obligations.FlatBusIsAByteArray := by
  intro s a v h
  have h' : Flat (s.memWrite a v) := h
  have same : (s.memWrite a v).peek a = v := by rw [State.peek_memWrite_flat h, if_pos rfl]
  have other : ∀ x, x ≠ a → (s.memWrite a v).peek x = s.peek x :=
    fun x hx => by rw [State.peek_memWrite_flat h, if_neg hx]
  have dev : (s.memWrite a v).m.dev = s.m.dev := by rw [State.memWrite_flat h]
  exact ⟨State.readByte_eq_peek_of_flat h a, State.afterRead_flat h a, same, other,
    (State.readByte_eq_peek_of_flat h' a).trans same, dev⟩

/-! ## A step changes memory by transactions of the Bus -/

/-- Reads before other transactions change the Bus state only, and emit no event. -/
theorem transact_readsFrom_append (B : Bus) (n : Nat) (p : Word) (l : List Access) (m : BusState)
    (ws : List MemoryWrite) :
    transact B (readsFrom n p ++ l) (m, ws) = transact B l (B.after (readsFrom n p) m, ws) := by
  induction n generalizing p m with
  | zero => rfl
  | succ n ih => exact ih (p + 1) (B.read m p).2

/-- Reads are no stores. -/
theorem storeCount_readsFrom_append (n : Nat) (p : Word) (l : List Access) :
    storeCount (readsFrom n p ++ l) = storeCount l := by
  induction n generalizing p with
  | zero => rfl
  | succ n ih => exact ih (p + 1)

/-- Memory and the event list of `t` are those of `s` after transactions of its Bus, `n` stores among them at most. -/
def ByTransactions (n : Nat) (s t : State) : Prop :=
  ∃ l : List Access, storeCount l ≤ n ∧ (t.m, t.writes) = transact (busOf s.cfg.bus) l (s.m, s.writes)

/-- A change that leaves memory and the events alone takes no transaction. -/
theorem ByTransactions.of_eq {n : Nat} {s t : State} (hm : t.m = s.m) (hw : t.writes = s.writes) :
    ByTransactions n s t :=
  ⟨[], Nat.zero_le n, congrArg₂ Prod.mk hm hw⟩

/-- Every instruction stores two bytes at most. -/
theorem Effect.byTransactions {i : Instr} {s t : State} (h : Effect i s t) : ByTransactions 2 s t := by
  cases h with
  | plain h | reti _ _ _ h => exact h.accesses
  | di _ ht | ei _ ht | haltBug _ _ ht | halt _ _ ht | stop _ _ ht => subst ht; exact .of_eq rfl rfl

/-- Taking an interrupt stores three bytes: PC's two halves on the stack, and IF (60_exceptions.md R327). -/
theorem State.interruptEntry_byTransactions (s : State) (k : Irq) : ByTransactions 3 s (s.interruptEntry k) :=
  ⟨[.write (s.sp - 1) (hi s.pc), .write (s.sp - 1 - 1) (lo s.pc),
      .write ifAddr ((s.push16 s.pc).peek ifAddr &&& ~~~((1 : Byte) <<< k.bit))], Nat.le_refl 3, rfl⟩

/-- The core's part of a step stores three bytes at most: it idles or wakes and stores none, or takes an interrupt, or
fetches an instruction, which is reads only, and executes it. -/
theorem StepCase.byTransactions {s₀ t : State} (h : StepCase s₀ t) : ByTransactions 3 s₀ t := by
  cases h with
  | stopped _ ht | halted _ _ ht | woken _ _ ht => subst ht; exact .of_eq rfl rfl
  | dispatched k _ _ ht => subst ht; exact s₀.interruptEntry_byTransactions k
  | executed i n m _ _ _ hr he =>
    subst hr
    obtain ⟨l, hl, ht⟩ := he.byTransactions
    refine ⟨s₀.fetchReads ++ l, ?_, ?_⟩
    · calc storeCount (s₀.fetchReads ++ l)
        _ = storeCount l := storeCount_readsFrom_append _ _ _
        _ ≤ 3 := Nat.le_succ_of_le hl
    · exact ht.trans (transact_readsFrom_append _ _ _ _ _ _).symm

/-! ## Behind the flat Bus, the events of transactions account for memory -/

/-- The events `ws`, played over the bytes `m₀`, give the bytes of `m`, and each of them has the old byte it found. -/
def AccountsFor (m₀ : Word → Byte) (m : BusState) (ws : List MemoryWrite) : Prop :=
  replay ws m₀ = m.mem.read ∧ OldsAgree ws m₀

/-- The last event's old byte is what the events before it leave at its address. -/
theorem oldsAgree_concat (ws : List MemoryWrite) (w : MemoryWrite) (m : Word → Byte) :
    OldsAgree (ws ++ [w]) m ↔ OldsAgree ws m ∧ w.old = replay ws m w.address := by
  induction ws generalizing m with
  | nil => exact and_comm
  | cons e ws ih => exact (and_congr_right' (ih _)).trans and_assoc.symm

/-- A store of the flat Bus with its event keeps the account. -/
theorem AccountsFor.store {m₀ : Word → Byte} {m : BusState} {ws : List MemoryWrite} (h : AccountsFor m₀ m ws)
    (a : Word) (v : Byte) : AccountsFor m₀ (Bus.flat.write m a v) (ws ++ [⟨a, Bus.flat.peek m a, v⟩]) := by
  obtain ⟨hreplay, hagree⟩ := h
  constructor
  · funext x
    calc replay (ws ++ [⟨a, Bus.flat.peek m a, v⟩]) m₀ x
      _ = if x = a then v else replay ws m₀ x := by rw [replay, List.foldl_append]; rfl
      _ = if x = a then v else m.mem.read x := by rw [hreplay]
      _ = (m.mem.write a v).read x := (Memory.read_write m.mem a v x).symm
  · exact (oldsAgree_concat _ _ _).mpr ⟨hagree, (congrFun hreplay a).symm⟩

/-- So does every list of transactions. -/
theorem AccountsFor.transact_flat {m₀ : Word → Byte} {m : BusState} {ws : List MemoryWrite} (h : AccountsFor m₀ m ws)
    (l : List Access) :
    AccountsFor m₀ (transact Bus.flat l (m, ws)).1 (transact Bus.flat l (m, ws)).2 := by
  induction l generalizing m ws with
  | nil => exact h
  | cons x l ih =>
    cases x with
    | read a => exact ih h
    | write a v => exact ih (h.store a v)

/-- No more events than the bound on the stores, where there were none before. -/
theorem ByTransactions.length_writes {n : Nat} {s t : State} (h : ByTransactions n s t) (hs : s.writes = []) :
    t.writes.length ≤ n := by
  obtain ⟨l, hl, ht⟩ := h
  calc t.writes.length
    _ = s.writes.length + storeCount l := by rw [← transact_length, ← ht]
    _ = storeCount l := by rw [hs, List.length_nil, Nat.zero_add]
    _ ≤ n := hl

/-- Behind the flat Bus the events account for memory, where there were none before. -/
theorem ByTransactions.accountsFor {n : Nat} {s t : State} (h : ByTransactions n s t) (hf : Flat s)
    (hs : s.writes = []) : AccountsFor s.peek t.m t.writes := by
  obtain ⟨l, -, ht⟩ := h
  have before : AccountsFor s.peek s.m s.writes := by
    rw [hs]
    exact ⟨funext (State.peek_flat hf), trivial⟩
  have flatTransactions : (t.m, t.writes) = transact Bus.flat l (s.m, s.writes) := by
    rw [ht, hf]
    rfl
  have after := before.transact_flat l
  rwa [← flatTransactions] at after

/-- Settles O51: the core's part of a step begins with no event and changes memory by transactions, each store with its
event. -/
theorem eventsAccountForMemory : Obligations.EventsAccountForMemory := by
  intro s t h
  have hc := step_cases h
  refine ⟨hc.byTransactions.length_writes rfl, fun hf => ?_⟩
  have hf₀ : Flat s.applyEnv.clearEvents := (congrArg Config.bus s.applyEnv_cfg).trans hf
  have hft : Flat t := (congrArg Config.bus hc.cfg_env_result.1).trans hf₀
  obtain ⟨hreplay, hagree⟩ := hc.byTransactions.accountsFor hf₀ rfl
  exact ⟨fun x => (State.peek_flat hft x).trans (congrFun hreplay x).symm, hagree⟩

end Sys2Proof.Machine
end

section
/-! PROOFS of the family 30_encoding.md: the catalog and its fields (R85, R88, R94 to R99), decode and encode (R93), the
branches of a step and its fetch (R100 to R102), that every instruction completes (R107), and a step's events (R106). -/

namespace Sys2Proof

open Claims

/-! ## The fields of an opcode byte (R85, R88) -/

/-- No bit below the lowest set bit is set. -/
theorem getLsbD_of_lt_lowestSetBit (m : Byte) {fuel i j : Nat} (hi : i ≤ j) (hj : j < lowestSetBit m fuel i) :
    m.getLsbD j = false := by
  induction fuel generalizing i with
  | zero => exact absurd hj (Nat.not_lt_zero j)
  | succ fuel ih =>
    rw [lowestSetBit] at hj
    split at hj
    · omega
    · rename_i hbit
      rcases Nat.eq_or_lt_of_le hi with rfl | hlt
      · exact Bool.eq_false_iff.mpr hbit
      · exact ih hlt hj

/-- A field value contributes back the bits it was taken from: none lies below the shift. -/
theorem Inner.contributes_field (q : Inner) (b : Byte) : q.contributes (q.field b) = b &&& q.mask := by
  rw [Inner.contributes, Inner.field, BitVec.ofNat_toNat, BitVec.setWidth_eq]
  ext k hk
  by_cases hs : k < q.shift
  · have below : q.mask[k] = false := getLsbD_of_lt_lowestSetBit q.mask (Nat.zero_le k) hs
    simp [below]
  · have hadd : q.shift + (k - q.shift) = k := by omega
    simp [hs, hadd, hk]

/-- The check of `Definition.wf` that a field's mask is disjoint from those before it, which it then joins. -/
def joinMask (acc : Option Byte) (q : Inner) : Option Byte :=
  acc.bind (fun m => if m &&& q.mask == 0 then some (m ||| q.mask) else none)

/-- A check that has failed stays failed. -/
theorem foldl_joinMask_none (qs : List Inner) : qs.foldl joinMask none = none := by
  induction qs with
  | nil => rfl
  | cons q qs ih => exact ih

/-- Joined to the bits under some masks, what the fields contribute gives the bits under all of them. -/
theorem foldl_contributes {qs : List Inner} {m r : Byte} (b : Byte) (h : qs.foldl joinMask (some m) = some r) :
    (List.zipWith Inner.contributes qs (qs.map (fun q => q.field b))).foldl (· ||| ·) (b &&& m) = b &&& r := by
  induction qs generalizing m with
  | nil => cases h; rfl
  | cons q qs ih =>
    rw [List.foldl_cons, joinMask, Option.bind_some] at h
    split at h
    · rw [List.map_cons, List.zipWith_cons_cons, List.foldl_cons, q.contributes_field, ← BitVec.and_or_distrib_left]
      exact ih h
    · rw [foldl_joinMask_none] at h; cases h

/-- The masks of a well-formed definition own all the bits, so its fields give back each byte that it claims. -/
theorem Definition.opcode_fields {d : Definition} (hd : d.wf = true) {b : Byte} (hb : d.claims b = true) :
    d.opcode (d.fields b) = b := by
  have hmasks : d.inner.foldl joinMask (some d.fixedMask) = some (BitVec.allOnes 8) :=
    beq_iff_eq.mp (Bool.and_eq_true_iff.mp hd).2
  have hfixed : b &&& d.fixedMask = d.fixedBits := beq_iff_eq.mp (Bool.and_eq_true_iff.mp hb).1
  rw [Definition.opcode, Definition.fields, ← hfixed, foldl_contributes b hmasks, BitVec.and_allOnes]

/-! ## The catalog (R94 to R99) -/

/-- Which bytes a definition of each space claims, each byte by one at most. -/
theorem length_filter_claims : ∀ b : Byte,
    (catalog.filter (fun d => d.space == .primary && d.claims b)).length =
      (if b = 0xCB ∨ b ∈ unclaimed then 0 else 1) ∧
    (catalog.filter (fun d => d.space == .extended && d.claims b)).length = 1 := by decide +kernel

theorem catalog_wf : ∀ d ∈ catalog, d.wf = true := by decide +kernel

/-- Settles O59: the counts are of finite tables; that the fields give the byte back holds of every well-formed
definition. -/
theorem catalogPartitionsTheOpcodes : Obligations.CatalogPartitionsTheOpcodes :=
  ⟨length_filter_claims, rfl, fun d hd => ⟨catalog_wf d hd, fun _ => Definition.opcode_fields (catalog_wf d hd)⟩⟩

end Sys2Proof

namespace Sys2Proof.Laws

/-! ## Every row is claimed -/

/-- The table slot of each instruction's opcode byte builds it, by the lemmas of Laws/PerInstr.lean. -/
theorem claimed_all : ∀ i : Instr, Claimed.Statement i
  | .nop => Claimed.nop | .ldBCN16 v => Claimed.ldBCN16 v | .ldDEN16 v => Claimed.ldDEN16 v
  | .ldHLN16 v => Claimed.ldHLN16 v | .ldSPN16 v => Claimed.ldSPN16 v | .ldAtBCA => Claimed.ldAtBCA
  | .ldAtDEA => Claimed.ldAtDEA | .ldAtHLIncA => Claimed.ldAtHLIncA | .ldAtHLDecA => Claimed.ldAtHLDecA
  | .incBC => Claimed.incBC | .incDE => Claimed.incDE | .incHL => Claimed.incHL | .incSP => Claimed.incSP
  | .incB => Claimed.incB | .incC => Claimed.incC | .incD => Claimed.incD | .incE => Claimed.incE
  | .incH => Claimed.incH | .incL => Claimed.incL | .incA => Claimed.incA | .incAtHL => Claimed.incAtHL
  | .decB => Claimed.decB | .decC => Claimed.decC | .decD => Claimed.decD | .decE => Claimed.decE
  | .decH => Claimed.decH | .decL => Claimed.decL | .decA => Claimed.decA | .decAtHL => Claimed.decAtHL
  | .ldBN8 v => Claimed.ldBN8 v | .ldCN8 v => Claimed.ldCN8 v | .ldDN8 v => Claimed.ldDN8 v
  | .ldEN8 v => Claimed.ldEN8 v | .ldHN8 v => Claimed.ldHN8 v | .ldLN8 v => Claimed.ldLN8 v
  | .ldAN8 v => Claimed.ldAN8 v | .ldAtHLN8 v => Claimed.ldAtHLN8 v | .rlca => Claimed.rlca
  | .ldAtN16SP v => Claimed.ldAtN16SP v | .addHLBC => Claimed.addHLBC | .addHLDE => Claimed.addHLDE
  | .addHLHL => Claimed.addHLHL | .addHLSP => Claimed.addHLSP | .ldAAtBC => Claimed.ldAAtBC
  | .ldAAtDE => Claimed.ldAAtDE | .ldAAtHLInc => Claimed.ldAAtHLInc | .ldAAtHLDec => Claimed.ldAAtHLDec
  | .decBC => Claimed.decBC | .decDE => Claimed.decDE | .decHL => Claimed.decHL | .decSP => Claimed.decSP
  | .rrca => Claimed.rrca | .stop v => Claimed.stop v | .rla => Claimed.rla | .jrE8 v => Claimed.jrE8 v
  | .rra => Claimed.rra | .jrNZE8 v => Claimed.jrNZE8 v | .jrZE8 v => Claimed.jrZE8 v | .jrNCE8 v => Claimed.jrNCE8 v
  | .jrCE8 v => Claimed.jrCE8 v | .daa => Claimed.daa | .cpl => Claimed.cpl | .scf => Claimed.scf | .ccf => Claimed.ccf
  | .ldBB => Claimed.ldBB | .ldBC => Claimed.ldBC | .ldBD => Claimed.ldBD | .ldBE => Claimed.ldBE
  | .ldBH => Claimed.ldBH | .ldBL => Claimed.ldBL | .ldBA => Claimed.ldBA | .ldCB => Claimed.ldCB
  | .ldCC => Claimed.ldCC | .ldCD => Claimed.ldCD | .ldCE => Claimed.ldCE | .ldCH => Claimed.ldCH
  | .ldCL => Claimed.ldCL | .ldCA => Claimed.ldCA | .ldDB => Claimed.ldDB | .ldDC => Claimed.ldDC
  | .ldDD => Claimed.ldDD | .ldDE => Claimed.ldDE | .ldDH => Claimed.ldDH | .ldDL => Claimed.ldDL
  | .ldDA => Claimed.ldDA | .ldEB => Claimed.ldEB | .ldEC => Claimed.ldEC | .ldED => Claimed.ldED
  | .ldEE => Claimed.ldEE | .ldEH => Claimed.ldEH | .ldEL => Claimed.ldEL | .ldEA => Claimed.ldEA
  | .ldHB => Claimed.ldHB | .ldHC => Claimed.ldHC | .ldHD => Claimed.ldHD | .ldHE => Claimed.ldHE
  | .ldHH => Claimed.ldHH | .ldHL => Claimed.ldHL | .ldHA => Claimed.ldHA | .ldLB => Claimed.ldLB
  | .ldLC => Claimed.ldLC | .ldLD => Claimed.ldLD | .ldLE => Claimed.ldLE | .ldLH => Claimed.ldLH
  | .ldLL => Claimed.ldLL | .ldLA => Claimed.ldLA | .ldAB => Claimed.ldAB | .ldAC => Claimed.ldAC
  | .ldAD => Claimed.ldAD | .ldAE => Claimed.ldAE | .ldAH => Claimed.ldAH | .ldAL => Claimed.ldAL
  | .ldAA => Claimed.ldAA | .ldBAtHL => Claimed.ldBAtHL | .ldCAtHL => Claimed.ldCAtHL | .ldDAtHL => Claimed.ldDAtHL
  | .ldEAtHL => Claimed.ldEAtHL | .ldHAtHL => Claimed.ldHAtHL | .ldLAtHL => Claimed.ldLAtHL
  | .ldAAtHL => Claimed.ldAAtHL | .ldAtHLB => Claimed.ldAtHLB | .ldAtHLC => Claimed.ldAtHLC
  | .ldAtHLD => Claimed.ldAtHLD | .ldAtHLE => Claimed.ldAtHLE | .ldAtHLH => Claimed.ldAtHLH
  | .ldAtHLL => Claimed.ldAtHLL | .ldAtHLA => Claimed.ldAtHLA | .halt => Claimed.halt | .addAB => Claimed.addAB
  | .addAC => Claimed.addAC | .addAD => Claimed.addAD | .addAE => Claimed.addAE | .addAH => Claimed.addAH
  | .addAL => Claimed.addAL | .addAA => Claimed.addAA | .addAAtHL => Claimed.addAAtHL | .addAN8 v => Claimed.addAN8 v
  | .adcAB => Claimed.adcAB | .adcAC => Claimed.adcAC | .adcAD => Claimed.adcAD | .adcAE => Claimed.adcAE
  | .adcAH => Claimed.adcAH | .adcAL => Claimed.adcAL | .adcAA => Claimed.adcAA | .adcAAtHL => Claimed.adcAAtHL
  | .adcAN8 v => Claimed.adcAN8 v | .subAB => Claimed.subAB | .subAC => Claimed.subAC | .subAD => Claimed.subAD
  | .subAE => Claimed.subAE | .subAH => Claimed.subAH | .subAL => Claimed.subAL | .subAA => Claimed.subAA
  | .subAAtHL => Claimed.subAAtHL | .subAN8 v => Claimed.subAN8 v | .sbcAB => Claimed.sbcAB | .sbcAC => Claimed.sbcAC
  | .sbcAD => Claimed.sbcAD | .sbcAE => Claimed.sbcAE | .sbcAH => Claimed.sbcAH | .sbcAL => Claimed.sbcAL
  | .sbcAA => Claimed.sbcAA | .sbcAAtHL => Claimed.sbcAAtHL | .sbcAN8 v => Claimed.sbcAN8 v | .andAB => Claimed.andAB
  | .andAC => Claimed.andAC | .andAD => Claimed.andAD | .andAE => Claimed.andAE | .andAH => Claimed.andAH
  | .andAL => Claimed.andAL | .andAA => Claimed.andAA | .andAAtHL => Claimed.andAAtHL | .andAN8 v => Claimed.andAN8 v
  | .xorAB => Claimed.xorAB | .xorAC => Claimed.xorAC | .xorAD => Claimed.xorAD | .xorAE => Claimed.xorAE
  | .xorAH => Claimed.xorAH | .xorAL => Claimed.xorAL | .xorAA => Claimed.xorAA | .xorAAtHL => Claimed.xorAAtHL
  | .xorAN8 v => Claimed.xorAN8 v | .orAB => Claimed.orAB | .orAC => Claimed.orAC | .orAD => Claimed.orAD
  | .orAE => Claimed.orAE | .orAH => Claimed.orAH | .orAL => Claimed.orAL | .orAA => Claimed.orAA
  | .orAAtHL => Claimed.orAAtHL | .orAN8 v => Claimed.orAN8 v | .cpAB => Claimed.cpAB | .cpAC => Claimed.cpAC
  | .cpAD => Claimed.cpAD | .cpAE => Claimed.cpAE | .cpAH => Claimed.cpAH | .cpAL => Claimed.cpAL
  | .cpAA => Claimed.cpAA | .cpAAtHL => Claimed.cpAAtHL | .cpAN8 v => Claimed.cpAN8 v | .retNZ => Claimed.retNZ
  | .retZ => Claimed.retZ | .retNC => Claimed.retNC | .retC => Claimed.retC | .popBC => Claimed.popBC
  | .popDE => Claimed.popDE | .popHL => Claimed.popHL | .popAF => Claimed.popAF | .jpNZN16 v => Claimed.jpNZN16 v
  | .jpZN16 v => Claimed.jpZN16 v | .jpNCN16 v => Claimed.jpNCN16 v | .jpCN16 v => Claimed.jpCN16 v
  | .jpN16 v => Claimed.jpN16 v | .callNZN16 v => Claimed.callNZN16 v | .callZN16 v => Claimed.callZN16 v
  | .callNCN16 v => Claimed.callNCN16 v | .callCN16 v => Claimed.callCN16 v | .pushBC => Claimed.pushBC
  | .pushDE => Claimed.pushDE | .pushHL => Claimed.pushHL | .pushAF => Claimed.pushAF | .rst00 => Claimed.rst00
  | .rst08 => Claimed.rst08 | .rst10 => Claimed.rst10 | .rst18 => Claimed.rst18 | .rst20 => Claimed.rst20
  | .rst28 => Claimed.rst28 | .rst30 => Claimed.rst30 | .rst38 => Claimed.rst38 | .ret => Claimed.ret
  | .reti => Claimed.reti | .callN16 v => Claimed.callN16 v | .ldhAtN8A v => Claimed.ldhAtN8A v
  | .ldhAtCA => Claimed.ldhAtCA | .addSPE8 v => Claimed.addSPE8 v | .jpHL => Claimed.jpHL
  | .ldAtN16A v => Claimed.ldAtN16A v | .ldhAAtN8 v => Claimed.ldhAAtN8 v | .ldhAAtC => Claimed.ldhAAtC
  | .di => Claimed.di | .ldHLSPE8 v => Claimed.ldHLSPE8 v | .ldSPHL => Claimed.ldSPHL
  | .ldAAtN16 v => Claimed.ldAAtN16 v | .ei => Claimed.ei | .rlcB => Claimed.rlcB | .rlcC => Claimed.rlcC
  | .rlcD => Claimed.rlcD | .rlcE => Claimed.rlcE | .rlcH => Claimed.rlcH | .rlcL => Claimed.rlcL
  | .rlcA => Claimed.rlcA | .rlcAtHL => Claimed.rlcAtHL | .rrcB => Claimed.rrcB | .rrcC => Claimed.rrcC
  | .rrcD => Claimed.rrcD | .rrcE => Claimed.rrcE | .rrcH => Claimed.rrcH | .rrcL => Claimed.rrcL
  | .rrcA => Claimed.rrcA | .rrcAtHL => Claimed.rrcAtHL | .rlB => Claimed.rlB | .rlC => Claimed.rlC
  | .rlD => Claimed.rlD | .rlE => Claimed.rlE | .rlH => Claimed.rlH | .rlL => Claimed.rlL | .rlA => Claimed.rlA
  | .rlAtHL => Claimed.rlAtHL | .rrB => Claimed.rrB | .rrC => Claimed.rrC | .rrD => Claimed.rrD | .rrE => Claimed.rrE
  | .rrH => Claimed.rrH | .rrL => Claimed.rrL | .rrA => Claimed.rrA | .rrAtHL => Claimed.rrAtHL | .slaB => Claimed.slaB
  | .slaC => Claimed.slaC | .slaD => Claimed.slaD | .slaE => Claimed.slaE | .slaH => Claimed.slaH
  | .slaL => Claimed.slaL | .slaA => Claimed.slaA | .slaAtHL => Claimed.slaAtHL | .sraB => Claimed.sraB
  | .sraC => Claimed.sraC | .sraD => Claimed.sraD | .sraE => Claimed.sraE | .sraH => Claimed.sraH
  | .sraL => Claimed.sraL | .sraA => Claimed.sraA | .sraAtHL => Claimed.sraAtHL | .swapB => Claimed.swapB
  | .swapC => Claimed.swapC | .swapD => Claimed.swapD | .swapE => Claimed.swapE | .swapH => Claimed.swapH
  | .swapL => Claimed.swapL | .swapA => Claimed.swapA | .swapAtHL => Claimed.swapAtHL | .srlB => Claimed.srlB
  | .srlC => Claimed.srlC | .srlD => Claimed.srlD | .srlE => Claimed.srlE | .srlH => Claimed.srlH
  | .srlL => Claimed.srlL | .srlA => Claimed.srlA | .srlAtHL => Claimed.srlAtHL | .bit0B => Claimed.bit0B
  | .bit0C => Claimed.bit0C | .bit0D => Claimed.bit0D | .bit0E => Claimed.bit0E | .bit0H => Claimed.bit0H
  | .bit0L => Claimed.bit0L | .bit0A => Claimed.bit0A | .bit1B => Claimed.bit1B | .bit1C => Claimed.bit1C
  | .bit1D => Claimed.bit1D | .bit1E => Claimed.bit1E | .bit1H => Claimed.bit1H | .bit1L => Claimed.bit1L
  | .bit1A => Claimed.bit1A | .bit2B => Claimed.bit2B | .bit2C => Claimed.bit2C | .bit2D => Claimed.bit2D
  | .bit2E => Claimed.bit2E | .bit2H => Claimed.bit2H | .bit2L => Claimed.bit2L | .bit2A => Claimed.bit2A
  | .bit3B => Claimed.bit3B | .bit3C => Claimed.bit3C | .bit3D => Claimed.bit3D | .bit3E => Claimed.bit3E
  | .bit3H => Claimed.bit3H | .bit3L => Claimed.bit3L | .bit3A => Claimed.bit3A | .bit4B => Claimed.bit4B
  | .bit4C => Claimed.bit4C | .bit4D => Claimed.bit4D | .bit4E => Claimed.bit4E | .bit4H => Claimed.bit4H
  | .bit4L => Claimed.bit4L | .bit4A => Claimed.bit4A | .bit5B => Claimed.bit5B | .bit5C => Claimed.bit5C
  | .bit5D => Claimed.bit5D | .bit5E => Claimed.bit5E | .bit5H => Claimed.bit5H | .bit5L => Claimed.bit5L
  | .bit5A => Claimed.bit5A | .bit6B => Claimed.bit6B | .bit6C => Claimed.bit6C | .bit6D => Claimed.bit6D
  | .bit6E => Claimed.bit6E | .bit6H => Claimed.bit6H | .bit6L => Claimed.bit6L | .bit6A => Claimed.bit6A
  | .bit7B => Claimed.bit7B | .bit7C => Claimed.bit7C | .bit7D => Claimed.bit7D | .bit7E => Claimed.bit7E
  | .bit7H => Claimed.bit7H | .bit7L => Claimed.bit7L | .bit7A => Claimed.bit7A | .bit0AtHL => Claimed.bit0AtHL
  | .bit1AtHL => Claimed.bit1AtHL | .bit2AtHL => Claimed.bit2AtHL | .bit3AtHL => Claimed.bit3AtHL
  | .bit4AtHL => Claimed.bit4AtHL | .bit5AtHL => Claimed.bit5AtHL | .bit6AtHL => Claimed.bit6AtHL
  | .bit7AtHL => Claimed.bit7AtHL | .res0B => Claimed.res0B | .res0C => Claimed.res0C | .res0D => Claimed.res0D
  | .res0E => Claimed.res0E | .res0H => Claimed.res0H | .res0L => Claimed.res0L | .res0A => Claimed.res0A
  | .res1B => Claimed.res1B | .res1C => Claimed.res1C | .res1D => Claimed.res1D | .res1E => Claimed.res1E
  | .res1H => Claimed.res1H | .res1L => Claimed.res1L | .res1A => Claimed.res1A | .res2B => Claimed.res2B
  | .res2C => Claimed.res2C | .res2D => Claimed.res2D | .res2E => Claimed.res2E | .res2H => Claimed.res2H
  | .res2L => Claimed.res2L | .res2A => Claimed.res2A | .res3B => Claimed.res3B | .res3C => Claimed.res3C
  | .res3D => Claimed.res3D | .res3E => Claimed.res3E | .res3H => Claimed.res3H | .res3L => Claimed.res3L
  | .res3A => Claimed.res3A | .res4B => Claimed.res4B | .res4C => Claimed.res4C | .res4D => Claimed.res4D
  | .res4E => Claimed.res4E | .res4H => Claimed.res4H | .res4L => Claimed.res4L | .res4A => Claimed.res4A
  | .res5B => Claimed.res5B | .res5C => Claimed.res5C | .res5D => Claimed.res5D | .res5E => Claimed.res5E
  | .res5H => Claimed.res5H | .res5L => Claimed.res5L | .res5A => Claimed.res5A | .res6B => Claimed.res6B
  | .res6C => Claimed.res6C | .res6D => Claimed.res6D | .res6E => Claimed.res6E | .res6H => Claimed.res6H
  | .res6L => Claimed.res6L | .res6A => Claimed.res6A | .res7B => Claimed.res7B | .res7C => Claimed.res7C
  | .res7D => Claimed.res7D | .res7E => Claimed.res7E | .res7H => Claimed.res7H | .res7L => Claimed.res7L
  | .res7A => Claimed.res7A | .res0AtHL => Claimed.res0AtHL | .res1AtHL => Claimed.res1AtHL
  | .res2AtHL => Claimed.res2AtHL | .res3AtHL => Claimed.res3AtHL | .res4AtHL => Claimed.res4AtHL
  | .res5AtHL => Claimed.res5AtHL | .res6AtHL => Claimed.res6AtHL | .res7AtHL => Claimed.res7AtHL
  | .set0B => Claimed.set0B | .set0C => Claimed.set0C | .set0D => Claimed.set0D | .set0E => Claimed.set0E
  | .set0H => Claimed.set0H | .set0L => Claimed.set0L | .set0A => Claimed.set0A | .set1B => Claimed.set1B
  | .set1C => Claimed.set1C | .set1D => Claimed.set1D | .set1E => Claimed.set1E | .set1H => Claimed.set1H
  | .set1L => Claimed.set1L | .set1A => Claimed.set1A | .set2B => Claimed.set2B | .set2C => Claimed.set2C
  | .set2D => Claimed.set2D | .set2E => Claimed.set2E | .set2H => Claimed.set2H | .set2L => Claimed.set2L
  | .set2A => Claimed.set2A | .set3B => Claimed.set3B | .set3C => Claimed.set3C | .set3D => Claimed.set3D
  | .set3E => Claimed.set3E | .set3H => Claimed.set3H | .set3L => Claimed.set3L | .set3A => Claimed.set3A
  | .set4B => Claimed.set4B | .set4C => Claimed.set4C | .set4D => Claimed.set4D | .set4E => Claimed.set4E
  | .set4H => Claimed.set4H | .set4L => Claimed.set4L | .set4A => Claimed.set4A | .set5B => Claimed.set5B
  | .set5C => Claimed.set5C | .set5D => Claimed.set5D | .set5E => Claimed.set5E | .set5H => Claimed.set5H
  | .set5L => Claimed.set5L | .set5A => Claimed.set5A | .set6B => Claimed.set6B | .set6C => Claimed.set6C
  | .set6D => Claimed.set6D | .set6E => Claimed.set6E | .set6H => Claimed.set6H | .set6L => Claimed.set6L
  | .set6A => Claimed.set6A | .set7B => Claimed.set7B | .set7C => Claimed.set7C | .set7D => Claimed.set7D
  | .set7E => Claimed.set7E | .set7H => Claimed.set7H | .set7L => Claimed.set7L | .set7A => Claimed.set7A
  | .set0AtHL => Claimed.set0AtHL | .set1AtHL => Claimed.set1AtHL | .set2AtHL => Claimed.set2AtHL
  | .set3AtHL => Claimed.set3AtHL | .set4AtHL => Claimed.set4AtHL | .set5AtHL => Claimed.set5AtHL
  | .set6AtHL => Claimed.set6AtHL | .set7AtHL => Claimed.set7AtHL

/-! ## Every claimed opcode byte is a row's -/

/-- The rows with an `n8` operand, as functions of it. -/
def rowsN8 : List (Byte → Instr) := [.ldBN8, .ldCN8, .ldDN8, .ldEN8, .ldHN8, .ldLN8, .ldAN8, .ldAtHLN8, .stop,
  .addAN8, .adcAN8, .subAN8, .sbcAN8, .andAN8, .xorAN8, .orAN8, .cpAN8, .ldhAtN8A, .ldhAAtN8]

/-- The rows with an `e8` operand. -/
def rowsE8 : List (Word → Instr) := [.jrE8, .jrNZE8, .jrZE8, .jrNCE8, .jrCE8, .addSPE8, .ldHLSPE8]

/-- The rows with an `n16` operand. -/
def rowsN16 : List (Word → Instr) := [.ldBCN16, .ldDEN16, .ldHLN16, .ldSPN16, .ldAtN16SP, .jpNZN16, .jpZN16, .jpNCN16,
  .jpCN16, .jpN16, .callNZN16, .callZN16, .callNCN16, .callCN16, .callN16, .ldAtN16A, .ldAAtN16]

/-- The opcode byte of such a row. -/
def rowOp {w : Nat} (f : BitVec w → Instr) : Byte := (f 0).encoding.op

theorem encoding_rowsN8 (n : Byte) : ∀ f ∈ rowsN8, (f n).encoding = ⟨.primary, rowOp f, [.n8 n]⟩ :=
  List.map_inj_left.mp rfl

theorem encoding_rowsE8 (e : Word) : ∀ f ∈ rowsE8, (f e).encoding = ⟨.primary, rowOp f, [.e8 e]⟩ :=
  List.map_inj_left.mp rfl

theorem encoding_rowsN16 (n : Word) : ∀ f ∈ rowsN16, (f n).encoding = ⟨.primary, rowOp f, [.n16 n]⟩ :=
  List.map_inj_left.mp rfl

/-- A definition with an operand claims the opcode bytes of such rows only. -/
theorem mem_rowOps_of_claimed : ∀ op : Byte, ∀ h ∈ lookup .primary op,
    (h.definition.appended = [.n8] → op ∈ rowsN8.map rowOp) ∧
    (h.definition.appended = [.e8] → op ∈ rowsE8.map rowOp) ∧
    (h.definition.appended = [.n16] → op ∈ rowsN16.map rowOp) := by decide +kernel

/-- A definition without operands builds, from each byte it claims, the row with that opcode byte. -/
theorem encoding_build_nil (sp : Space) : ∀ op : Byte, ∀ h ∈ lookup sp op, h.definition.appended = [] →
    (h.build (h.definition.fields op) []).map Instr.encoding = some ⟨sp, op, []⟩ := by
  cases sp <;> decide +kernel

/-- An opcode byte of such rows, with an operand of their kind, is the encoding of one of them. -/
theorem exists_encoding_of_rows {w : Nat} {rows : List (BitVec w → Instr)} {op : Byte} {o : Operand} {v : BitVec w}
    (hop : op ∈ rows.map rowOp) (hrows : ∀ f ∈ rows, (f v).encoding = ⟨.primary, rowOp f, [o]⟩) :
    ∃ i : Instr, i.encoding = ⟨.primary, op, [o]⟩ := by
  obtain ⟨f, hf, rfl⟩ := List.mem_map.mp hop
  exact ⟨f v, hrows f hf⟩

/-- Every claimed opcode byte, with operands of the kinds its definition has, is the encoding of a row. -/
theorem exists_encoding {sp : Space} {op : Byte} {h : Handle} {os : List Operand} (hl : lookup sp op = some h)
    (hos : os.map kindOf = h.definition.appended) : ∃ i : Instr, i.encoding = ⟨sp, op, os⟩ := by
  have nil (ha : h.definition.appended = []) : ∃ i : Instr, i.encoding = ⟨sp, op, os⟩ := by
    obtain ⟨i, -, hi⟩ := Option.map_eq_some_iff.mp (encoding_build_nil sp op h hl ha)
    rw [ha, List.map_eq_nil_iff] at hos
    exact ⟨i, hos ▸ hi⟩
  have hmem := find_page sp op ▸ hl
  have hk := appended_kinds sp h (List.mem_of_find?_eq_some hmem)
  cases sp with
  | extended => exact nil (List.mem_singleton.mp hk)
  | primary =>
    obtain ⟨h8, he, h16⟩ := mem_rowOps_of_claimed op h hl
    simp only [List.mem_cons, List.not_mem_nil, or_false] at hk
    rcases hk with hk | hk | hk | hk
    · exact nil hk
    all_goals
      rw [hk] at hos
      obtain ⟨o, rfl, ho⟩ := List.map_eq_singleton_iff.mp hos
    · cases o with
      | n8 n => exact exists_encoding_of_rows (h8 hk) (encoding_rowsN8 n)
      | e8 | n16 => cases ho
    · cases o with
      | e8 e => exact exists_encoding_of_rows (he hk) (encoding_rowsE8 e)
      | n8 | n16 => cases ho
    · cases o with
      | n16 n => exact exists_encoding_of_rows (h16 hk) (encoding_rowsN16 n)
      | n8 | e8 => cases ho

/-- What the definition of an opcode byte builds has that encoding: the row with that encoding is what it builds. -/
theorem encoding_of_build {sp : Space} {op : Byte} {h : Handle} {os : List Operand} {i : Instr}
    (hl : lookup sp op = some h) (hos : os.map kindOf = h.definition.appended)
    (hb : h.build (h.definition.fields op) os = some i) : i.encoding = ⟨sp, op, os⟩ := by
  obtain ⟨j, hj⟩ := exists_encoding hl hos
  obtain ⟨k, hk, hkb, -, -⟩ := claimed_all j
  rw [hj] at hk hkb
  cases hl.symm.trans hk
  cases hb.symm.trans hkb
  exact hj

/-! ## Decode and encode agree (R92, R93) -/

/-- The decoder of a space answers exactly the well-formed instruction whose encoding the bytes begin with. -/
theorem decodeIn_eq_ok_iff {sp : Space} {op : Byte} {bs rest : List Byte} {i : Instr} :
    decodeIn sp op bs = .ok (i, rest) ↔ i.wf = true ∧ i.encoding.space = sp ∧ i.encoding.op = op ∧
      i.encoding.operands.flatMap Operand.bytes ++ rest = bs := by
  constructor
  · intro h
    unfold decodeIn at h
    split at h
    · cases h
    rename_i d hl
    split at h
    · cases h
    rename_i os r hr
    split at h
    · cases h
    rename_i j hb
    cases h
    obtain ⟨hkinds, hbytes, hcanonical⟩ := of_readOperands hr
    rw [wf_iff_canonical, encoding_of_build hl hkinds hb]
    exact ⟨hcanonical, rfl, rfl, hbytes⟩
  · rintro ⟨hwf, rfl, rfl, rfl⟩
    obtain ⟨d, hl, hb, hkinds, -⟩ := claimed_all i
    have hr := readOperands_bytes i.encoding.operands rest ((wf_iff_canonical i).mp hwf)
    simp only [decodeIn, hl, hkinds, hr, hb]

/-- In the primary space an instruction's bytes are its opcode byte and its operands' (R92). -/
theorem encode_of_primary {i : Instr} (h : i.encoding.space = .primary) :
    encode i = i.encoding.op :: i.encoding.operands.flatMap Operand.bytes := by
  rw [encode, Encoding.bytes, h]; rfl

/-- In the extended space 0xCB stands before them. -/
theorem encode_of_extended {i : Instr} (h : i.encoding.space = .extended) :
    encode i = prefixByte :: i.encoding.op :: i.encoding.operands.flatMap Operand.bytes := by
  rw [encode, Encoding.bytes, h]; rfl

/-- The byte 0xCB is no instruction's opcode byte in the primary space. -/
theorem op_ne_prefixByte {i : Instr} (h : i.encoding.space = .primary) : i.encoding.op ≠ prefixByte := by
  have unclaimed : lookup .primary prefixByte = none := by decide +kernel
  obtain ⟨d, hl, -⟩ := claimed_all i
  intro hop
  rw [h, hop, unclaimed] at hl
  cases hl

/-- Bytes that begin with 0xCB begin with an instruction of the extended space only. -/
theorem encode_append_eq_prefixByte_cons {i : Instr} {op : Byte} {bs rest : List Byte} :
    encode i ++ rest = prefixByte :: op :: bs ↔ i.encoding.space = .extended ∧ i.encoding.op = op ∧
      i.encoding.operands.flatMap Operand.bytes ++ rest = bs := by
  cases hs : i.encoding.space with
  | primary => simp [encode_of_primary hs, op_ne_prefixByte hs]
  | extended => simp [encode_of_extended hs]

/-- Bytes that begin with another byte begin with an instruction of the primary space only. -/
theorem encode_append_eq_cons {i : Instr} {b0 : Byte} {bs rest : List Byte} (hb : b0 ≠ prefixByte) :
    encode i ++ rest = b0 :: bs ↔ i.encoding.space = .primary ∧ i.encoding.op = b0 ∧
      i.encoding.operands.flatMap Operand.bytes ++ rest = bs := by
  cases hs : i.encoding.space with
  | primary => simp [encode_of_primary hs]
  | extended => simp [encode_of_extended hs, hb.symm]

/-- A mapped answer comes from an answer. -/
theorem map_eq_ok_iff {ε α β : Type} {x : Except ε α} {f : α → β} {b : β} :
    x.map f = .ok b ↔ ∃ a, x = .ok a ∧ f a = b := by
  cases x <;> simp [Except.map]

/-- The answer of the space that the first byte selects (R114), with its length for the bytes left. -/
theorem decodeWindow_eq_map (b0 b1 b2 : Byte) : decodeWindow b0 b1 b2 =
    (if b0 = prefixByte then decodeIn .extended b1 [b2] else decodeIn .primary b0 [b1, b2]).map
      (fun r => (r.1, 3 - r.2.length)) := by
  unfold decodeWindow
  by_cases hb : b0 = prefixByte
  · rw [if_pos (beq_iff_eq.mpr hb), if_pos hb]
    cases decodeIn .extended b1 [b2] <;> rfl
  · rw [if_neg (mt beq_iff_eq.mp hb), if_neg hb]
    cases decodeIn .primary b0 [b1, b2] <;> rfl

/-- That space answers exactly the well-formed instruction that the three bytes begin with. -/
theorem decodeIn_window_eq_ok_iff {b0 b1 b2 : Byte} {i : Instr} {rest : List Byte} :
    (if b0 = prefixByte then decodeIn .extended b1 [b2] else decodeIn .primary b0 [b1, b2]) = .ok (i, rest) ↔
      i.wf = true ∧ encode i ++ rest = [b0, b1, b2] := by
  split
  · rename_i hb
    rw [decodeIn_eq_ok_iff, hb, encode_append_eq_prefixByte_cons]
  · rename_i hb
    rw [decodeIn_eq_ok_iff, encode_append_eq_cons hb]

/-- Three bytes decode to the well-formed instruction that they begin with, and its length. -/
theorem decodeWindow_eq_ok_iff {b0 b1 b2 : Byte} {i : Instr} {n : Nat} :
    decodeWindow b0 b1 b2 = .ok (i, n) ↔ i.wf = true ∧ encode i <+: [b0, b1, b2] ∧ n = i.length := by
  have left {rest : List Byte} (h : encode i ++ rest = [b0, b1, b2]) : 3 - rest.length = i.length := by
    have hlength : i.length + rest.length = 3 := by rw [Instr.length, ← List.length_append, h]; rfl
    omega
  rw [decodeWindow_eq_map]
  constructor
  · intro h
    obtain ⟨⟨j, rest⟩, hd, hj⟩ := map_eq_ok_iff.mp h
    cases hj
    obtain ⟨hwf, hbytes⟩ := decodeIn_window_eq_ok_iff.mp hd
    exact ⟨hwf, ⟨rest, hbytes⟩, left hbytes⟩
  · rintro ⟨hwf, ⟨rest, hbytes⟩, rfl⟩
    rw [decodeIn_window_eq_ok_iff.mpr ⟨hwf, hbytes⟩, Except.map, left hbytes]

/-! ## The length of an instruction (R115) -/

/-- Each operand has as many bytes as its kind. -/
theorem length_operand_bytes (os : List Operand) :
    (os.flatMap Operand.bytes).length = ((os.map kindOf).map AppendedKind.size).sum := by
  induction os with
  | nil => rfl
  | cons o os ih => rw [List.flatMap_cons, List.length_append, ih]; cases o <;> rfl

/-- The first byte of an instruction says how many follow. -/
theorem bytesAfterFirst_of_encode {i : Instr} {b : Byte} {bs : List Byte} (h : encode i = b :: bs) :
    bytesAfterFirst b = bs.length := by
  obtain ⟨d, hl, -, hkinds, -⟩ := claimed_all i
  cases hs : i.encoding.space with
  | primary =>
    obtain ⟨rfl, rfl⟩ := List.cons_eq_cons.mp ((encode_of_primary hs).symm.trans h)
    rw [hs] at hl
    rw [bytesAfterFirst, if_neg (mt beq_iff_eq.mp (op_ne_prefixByte hs)), hl, length_operand_bytes, ← hkinds]
  | extended =>
    obtain ⟨rfl, rfl⟩ := List.cons_eq_cons.mp ((encode_of_extended hs).symm.trans h)
    rw [hs, find_page] at hl
    have hnone := List.mem_singleton.mp (appended_kinds .extended d (List.mem_of_find?_eq_some hl))
    rw [List.length_cons, length_operand_bytes, ← hkinds, hnone]
    rfl

/-- No instruction is longer than three bytes (R80). -/
theorem length_le_three (i : Instr) : i.length ≤ 3 := by
  have hle : ∀ b, bytesAfterFirst b ≤ 2 := by decide +kernel
  cases h : encode i with
  | nil => rw [Instr.length, h]; decide
  | cons b bs =>
    have hfirst := bytesAfterFirst_of_encode h
    rw [Instr.length, h, List.length_cons, ← hfirst]
    exact Nat.succ_le_succ (hle b)

/-- A sequence long enough for an instruction begins with it exactly where its first three bytes do, zeros where it has
none. -/
theorem encode_prefix_window {i : Instr} {b0 : Byte} {bs : List Byte} (h : i.length ≤ bs.length + 1) :
    encode i <+: [b0, bs.getD 0 0, bs.getD 1 0] ↔ encode i <+: b0 :: bs := by
  have hw : [b0, bs.getD 0 0, bs.getD 1 0] <+: b0 :: bs ++ [0, 0] := by
    rcases bs with _ | ⟨x, _ | ⟨y, bs⟩⟩ <;> simp
  have hbs : b0 :: bs <+: b0 :: bs ++ [0, 0] := List.prefix_append _ _
  exact ⟨fun hi => List.prefix_of_prefix_length_le (hi.trans hw) hbs h,
    fun hi => List.prefix_of_prefix_length_le (hi.trans hbs) hw (length_le_three i)⟩

/-- Decode answers exactly the well-formed instruction that the bytes begin with, and the bytes after it. -/
theorem decode_eq_ok_iff {bs rest : List Byte} {i : Instr} :
    decode bs = .ok (i, rest) ↔ i.wf = true ∧ encode i ++ rest = bs := by
  cases bs with
  | nil => simp [decode, encode, Encoding.bytes]
  | cons b0 bs =>
    constructor
    · intro h
      rw [decode] at h
      split at h
      · cases h
      · rename_i j n hw
        obtain ⟨hwf, hprefix, rfl⟩ := decodeWindow_eq_ok_iff.mp hw
        split at h
        · rename_i hn
          cases h
          exact ⟨hwf, List.prefix_iff_eq_append.mp ((encode_prefix_window hn).mp hprefix)⟩
        · cases h
    · rintro ⟨hwf, hbytes⟩
      have hn : i.length ≤ bs.length + 1 := List.IsPrefix.length_le ⟨rest, hbytes⟩
      have hw := decodeWindow_eq_ok_iff.mpr ⟨hwf, (encode_prefix_window hn).mpr ⟨rest, hbytes⟩, rfl⟩
      simp only [decode, hw, if_pos hn]
      rw [← hbytes, Instr.length, List.drop_left]

/-- Settles O57: the bytes of a well-formed instruction begin with it. -/
theorem decodeOfEncode : Obligations.DecodeOfEncode :=
  fun _ _ hwf => decode_eq_ok_iff.mpr ⟨hwf, rfl⟩

/-- Settles O58: what decodes begins with the instruction, and so do its own bytes. -/
theorem encodeOfDecode : Obligations.EncodeOfDecode := by
  intro bs rest i h
  obtain ⟨hwf, hbytes⟩ := decode_eq_ok_iff.mp h
  exact ⟨hbytes, hwf, decode_eq_ok_iff.mpr ⟨hwf, List.append_nil _⟩⟩

/-- Settles O60: nine words begin with the bytes of a well-formed instruction, and the last with no claimed byte. -/
theorem sampleWordsDecode : Obligations.SampleWordsDecode := by
  unfold Obligations.SampleWordsDecode
  simp only [decode_eq_ok_iff]
  exact ⟨⟨rfl, rfl⟩, ⟨rfl, rfl⟩, ⟨rfl, rfl⟩, ⟨rfl, rfl⟩, ⟨rfl, rfl⟩, ⟨rfl, rfl⟩, ⟨rfl, rfl⟩, ⟨rfl, rfl⟩, ⟨rfl, rfl⟩,
    rfl⟩

end Sys2Proof.Laws

namespace Sys2Proof.Machine

open Claims

/-! ## The branches of a step (R102) -/

/-- No step is refused: a running core that takes no interrupt executes an instruction or faults, and every instruction
completes. -/
theorem step_ne_refused (s : State) (r : Refusal) : step s ≠ .refused r := by
  unfold step
  generalize s.applyEnv.clearEvents = s₀
  cases hm : s₀.mode with
  | stopped => rw [coreStep_stopped hm]; nofun
  | halted => rw [coreStep_halted hm]; split <;> nofun
  | running =>
    cases hk : s₀.irqToTake with
    | some k => rw [coreStep_taken hm hk]; nofun
    | none =>
      rw [coreStep_instruction hm hk]
      cases hd : s₀.decodeNext with
      | error u => rw [instructionPhase_error hd]; nofun
      | ok d =>
        obtain ⟨t, ht, -⟩ := exec_next d.1 (s₀.fetch.2.enter d.2)
        rw [instructionPhase_ok hd, ht]
        nofun

/-- Settles O40: every instruction completes, so no step is refused. -/
theorem everyInstructionCompletes : Obligations.EveryInstructionCompletes :=
  ⟨fun i s => (exec_next i s).imp fun _ h => h.1, step_ne_refused⟩

/-- Settles O44: branch S1. -/
theorem stoppedCoreIdles : Obligations.StoppedCoreIdles := fun _ h => coreStep_stopped h

/-- Settles O45: branch S2. -/
theorem haltedCoreIdlesOrWakes : Obligations.HaltedCoreIdlesOrWakes := fun _ h =>
  ⟨fun h0 => (coreStep_halted h).trans (if_pos h0), fun h0 => (coreStep_halted h).trans (if_neg h0)⟩

/-! ## A step runs the instruction that is fetched (R100) -/

/-- A running core that takes no interrupt executes the instruction it decodes. -/
theorem step_executes {s : State} {i : Instr} {n : Nat} (hm : (atStart s).mode = .running)
    (hk : (atStart s).irqToTake = none) (hd : (atStart s).decodeNext = .ok (i, n)) :
    step s = exec i ((atStart s).fetch.2.enter n) :=
  (coreStep_instruction hm hk).trans (instructionPhase_ok hd)

/-- The bytes that stand at an address, read one after the other. -/
theorem readBytes_of_readsAt {p : Word} {bs : List Byte} {s t : State} (h : ReadsAt p bs s t) :
    State.readBytes bs.length p s = (bs, t) := by
  induction bs generalizing p s with
  | nil => cases h; rfl
  | cons b bs ih =>
    obtain ⟨rfl, h⟩ := h
    rw [List.length_cons, State.readBytes, ih h]

/-- The fetch reads exactly the bytes of the instruction that stands there. -/
theorem fetch_of_fetchesTo {i : Instr} {s t : State} (h : FetchesTo (encode i) s t) : s.fetch = (encode i, t) := by
  cases hi : encode i with
  | nil => rw [hi] at h; cases h
  | cons b bs =>
    rw [hi] at h
    obtain ⟨rfl, h⟩ := h
    rw [State.fetch, Laws.bytesAfterFirst_of_encode hi]
    simp only [State.afterFirst, readBytes_of_readsAt h]

/-- It then decodes that instruction. -/
theorem decodeNext_of_fetchesTo {i : Instr} {s t : State} (hwf : i.wf = true) (h : FetchesTo (encode i) s t) :
    s.decodeNext = .ok (i, i.length) := by
  rw [State.decodeNext, fetch_of_fetchesTo h]
  cases hi : encode i with
  | nil => rw [hi] at h; cases h
  | cons b bs =>
    have hprefix : encode i <+: [b, bs.getD 0 0, bs.getD 1 0] :=
      (Laws.encode_prefix_window (by rw [Instr.length, hi]; rfl)).mpr (by rw [hi])
    exact Laws.decodeWindow_eq_ok_iff.mpr ⟨hwf, hprefix, rfl⟩

/-- Settles O46: the fetch reads the bytes of the instruction, which decode to it; behind the flat Bus it changes
nothing. -/
theorem stepRunsTheDecodedInstruction : Obligations.StepRunsTheDecodedInstruction := by
  intro s i s₀ p enter hm hirq
  have hk : s₀.irqToTake = none := s₀.irqToTake_eq_none_iff.mpr hirq
  constructor
  · intro t hwf hfetch
    have hlast : s₀.fetch.2 = t := by rw [fetch_of_fetchesTo hfetch]
    have henter : s₀.fetch.2.enter i.length = enter i.length s₀.fetch.2 := by
      simp only [State.enter, State.afterFirst, enter, p, State.fetch_haltBug, State.fetch_pc, State.fetch_ime,
        State.fetch_eiPending]
    rw [step_executes hm hk (decodeNext_of_fetchesTo hwf hfetch), ← hlast, ← henter]
  · intro n hf hd
    rw [step_executes hm hk ((State.decodeNext_flat hf).trans hd), State.fetch_flat_state hf]
    rfl

/-! ## The registers an instruction leaves alone (R106) -/

/-- Every register none of whose cells is among `written` has in `t` the value it had in `s`. -/
def Keeps (s t : State) (written : List RegName) : Prop :=
  ∀ r : RegName, (∀ q ∈ r.cells, q ∉ written) → t.named r = s.named r

theorem Keeps.refl (s : State) : Keeps s s [] := fun _ _ => rfl

theorem Keeps.trans {s t u : State} {ws ws' : List RegName} (h : Keeps s t ws) (h' : Keeps t u ws') :
    Keeps s u (ws ++ ws') := fun r hr =>
  (h' r fun q hq hw => hr q hq (List.mem_append_right _ hw)).trans
    (h r fun q hq hw => hr q hq (List.mem_append_left _ hw))

theorem Keeps.mono {s t : State} {ws ws' : List RegName} (h : Keeps s t ws) (hw : ws ⊆ ws') : Keeps s t ws' :=
  fun r hr => h r fun q hq hq' => hr q hq (hw hq')

theorem Keeps.ite {s t : State} {ws : List RegName} (h : Keeps s t ws) (c : Prop) [Decidable c] :
    Keeps s (if c then t else s) ws := by
  split
  · exact h
  · exact fun _ _ => rfl

/-- The name of a register operand. -/
def regName : Reg8 → RegName
  | .a => .a | .b => .b | .c => .c | .d => .d | .e => .e | .h => .h | .l => .l

/-- The register cells of a pair operand. -/
def pairCells : R16 → List RegName
  | .bc => [.b, .c] | .de => [.d, .e] | .hl => [.h, .l] | .sp => [.sp]

section
variable (s : State)

/-! What each update of the state leaves alone. -/

theorem keeps_control (i e h : Bool) (m : Mode) :
    Keeps s { s with ime := i, eiPending := e, haltBug := h, mode := m } [] := by rintro ⟨⟩ - <;> rfl

theorem keeps_afterRead (x : Word) : Keeps s (s.afterRead x) [] := by rintro ⟨⟩ - <;> rfl

theorem keeps_memWrite (x : Word) (v : Byte) : Keeps s (s.memWrite x v) [] := by rintro ⟨⟩ - <;> rfl

theorem keeps_setPC (x : Word) : Keeps s { s with pc := x } [.pc] := by
  intro r hr
  cases r
  case pc => exact absurd hr (by decide)
  all_goals rfl

theorem keeps_setSP (x : Word) : Keeps s { s with sp := x } [.sp] := by
  intro r hr
  cases r
  case sp => exact absurd hr (by decide)
  all_goals rfl

theorem keeps_setF (v : Byte) : Keeps s { s with f := v } [.f] := by
  intro r hr
  cases r
  case f | af => exact absurd hr (by decide)
  all_goals rfl

theorem keeps_setFlags (z n h c : Bool) : Keeps s (s.setFlags z n h c) [.f] := keeps_setF s _

theorem keeps_setReg (r : Reg8) (v : Byte) : Keeps s (s.setReg r v) [regName r] := by
  intro q hq
  have same (p : Reg8) (hp : regName p ∈ q.cells) : (s.setReg r v).reg p = s.reg p := by
    rw [State.reg_setReg, if_neg]
    rintro rfl
    exact hq _ hp (List.mem_singleton_self _)
  cases q with
  | a => exact congrArg (BitVec.setWidth 16) (same .a (by decide))
  | f => exact congrArg (BitVec.setWidth 16) (s.setReg_f r v)
  | b => exact congrArg (BitVec.setWidth 16) (same .b (by decide))
  | c => exact congrArg (BitVec.setWidth 16) (same .c (by decide))
  | d => exact congrArg (BitVec.setWidth 16) (same .d (by decide))
  | e => exact congrArg (BitVec.setWidth 16) (same .e (by decide))
  | h => exact congrArg (BitVec.setWidth 16) (same .h (by decide))
  | l => exact congrArg (BitVec.setWidth 16) (same .l (by decide))
  | af => exact congrArg₂ concat (same .a (by decide)) (s.setReg_f r v)
  | bc => exact congrArg₂ concat (same .b (by decide)) (same .c (by decide))
  | de => exact congrArg₂ concat (same .d (by decide)) (same .e (by decide))
  | hl => exact congrArg₂ concat (same .h (by decide)) (same .l (by decide))
  | sp => exact s.setReg_sp r v
  | pc => exact s.setReg_pc r v

theorem keeps_setR16 (p : R16) (v : Word) : Keeps s (s.setR16 p v) (pairCells p) := by
  cases p with
  | bc => exact (keeps_setReg s .b (hi v)).trans (keeps_setReg _ .c (lo v))
  | de => exact (keeps_setReg s .d (hi v)).trans (keeps_setReg _ .e (lo v))
  | hl => exact (keeps_setReg s .h (hi v)).trans (keeps_setReg _ .l (lo v))
  | sp => exact keeps_setSP s v

/-! And each sequence of them that instructions share. -/

theorem keeps_memWrite16 (x v : Word) : Keeps s (s.memWrite16 x v) [] :=
  (keeps_memWrite s x _).trans (keeps_memWrite _ _ _)

theorem keeps_afterRead_memWrite (x y : Word) (v : Byte) : Keeps s ((s.afterRead x).memWrite y v) [] :=
  (keeps_afterRead s x).trans (keeps_memWrite _ y v)

theorem keeps_memWrite_setHL (x : Word) (v : Byte) (y : Word) : Keeps s ((s.memWrite x v).setHL y) [.h, .l] :=
  (keeps_memWrite s x v).trans (keeps_setR16 _ .hl y)

theorem keeps_load (x : Word) (r : Reg8) (v : Byte) : Keeps s ((s.afterRead x).setReg r v) [regName r] :=
  (keeps_afterRead s x).trans (keeps_setReg _ r v)

theorem keeps_load_setHL (v : Byte) (x : Word) : Keeps s ({ s.afterHL with a := v }.setHL x) [.a, .h, .l] :=
  (keeps_load s s.hl .a v).trans (keeps_setR16 _ .hl x)

theorem keeps_putReg (r : Reg8) (o : AluOut) : Keeps s (s.putReg r o) [.f, regName r] :=
  ((keeps_setReg s r o.res).trans (keeps_setFlags _ _ _ _ _)).mono (by simp)

theorem keeps_putReg_a (o : AluOut) : Keeps s (s.putReg .a o) [.a, .f] :=
  (keeps_setReg s .a o.res).trans (keeps_setFlags _ _ _ _ _)

theorem keeps_setR16_setFlags (p : R16) (v : Word) (z n h c : Bool) :
    Keeps s ((s.setR16 p v).setFlags z n h c) (.f :: pairCells p) :=
  ((keeps_setR16 s p v).trans (keeps_setFlags _ z n h c)).mono (by simp)

theorem keeps_push16 (v : Word) : Keeps s (s.push16 v) [.sp] :=
  ((keeps_setSP s (s.sp - 1)).trans ((keeps_memWrite _ _ (hi v)).trans
    ((keeps_setSP _ (s.sp - 1 - 1)).trans (keeps_memWrite _ _ (lo v))))).mono (by decide)

theorem keeps_pop16 : Keeps s s.pop16.2 [.sp] :=
  ((keeps_afterRead s s.sp).trans ((keeps_setSP _ (s.sp + 1)).trans
    ((keeps_afterRead _ (s.sp + 1)).trans (keeps_setSP _ (s.sp + 1 + 1))))).mono (by decide)

theorem keeps_setR16Stk (p : R16Stk) (v : Word) : Keeps s (s.setR16Stk p v) ((halvesStk p).map regName) := by
  cases p with
  | bc => exact keeps_setR16 s .bc v
  | de => exact keeps_setR16 s .de v
  | hl => exact keeps_setR16 s .hl v

theorem keeps_pop16_setR16Stk (p : R16Stk) (v : Word) :
    Keeps s (s.pop16.2.setR16Stk p v) ((halvesStk p).map regName ++ [.sp]) :=
  ((keeps_pop16 s).trans (keeps_setR16Stk _ p v)).mono (by simp)

theorem keeps_pop16_setAF (v : Word) : Keeps s (s.pop16.2.setAF v) [.a, .f, .sp] :=
  ((keeps_pop16 s).trans ((keeps_setReg _ .a (hi v)).trans (keeps_setF _ (lo v &&& 0xF0)))).mono (by decide)

theorem keeps_popPC : Keeps s s.popPC [.sp, .pc] := (keeps_pop16 s).trans (keeps_setPC _ _)

theorem keeps_call (x : Word) : Keeps s (s.call x) [.sp, .pc] := (keeps_push16 s _).trans (keeps_setPC _ _)

theorem exec_halt_keeps : ∃ t, exec .halt s = .next t ∧ Keeps s t [] := by
  show ∃ t, execHalt s = .next t ∧ _
  unfold execHalt
  split <;> exact ⟨_, rfl, keeps_control s _ _ _ _⟩

end

/-- Every instruction keeps the registers that it is not listed as writing. -/
theorem exec_keeps (i : Instr) (s : State) : ∃ t, exec i s = .next t ∧ Keeps s t (registersWritten i) := by
  cases i
  case nop =>
    exact ⟨_, rfl, .refl s⟩
  case di | ei | stop _ =>
    exact ⟨_, rfl, keeps_control s _ _ _ _⟩
  case halt =>
    exact exec_halt_keeps s
  case ldAtHLB | ldAtHLC | ldAtHLD | ldAtHLE | ldAtHLH | ldAtHLL | ldAtHLA | ldAtBCA | ldAtDEA | ldAtHLN8 _
    | ldhAtN8A _ | ldhAtCA | ldAtN16A _ =>
    exact ⟨_, rfl, keeps_memWrite s _ _⟩
  case ldAtN16SP _ =>
    exact ⟨_, rfl, keeps_memWrite16 s _ _⟩
  case res0AtHL | res1AtHL | res2AtHL | res3AtHL | res4AtHL | res5AtHL | res6AtHL | res7AtHL | set0AtHL | set1AtHL
    | set2AtHL | set3AtHL | set4AtHL | set5AtHL | set6AtHL | set7AtHL =>
    exact ⟨_, rfl, keeps_afterRead_memWrite s s.hl _ _⟩
  case ldBAtHL | ldCAtHL | ldDAtHL | ldEAtHL | ldHAtHL | ldLAtHL | ldAAtHL =>
    exact ⟨_, rfl, keeps_load s s.hl _ _⟩
  case ldAAtBC | ldAAtDE | ldhAAtN8 _ | ldhAAtC | ldAAtN16 _ =>
    exact ⟨_, rfl, keeps_load s _ .a _⟩
  case ldAAtHLInc | ldAAtHLDec =>
    exact ⟨_, rfl, keeps_load_setHL s _ _⟩
  case ldAtHLIncA | ldAtHLDecA =>
    exact ⟨_, rfl, keeps_memWrite_setHL s _ _ _⟩
  case ldBCN16 _ | ldDEN16 _ | ldHLN16 _ | ldSPN16 _ | incBC | incDE | incHL | incSP | decBC | decDE | decHL | decSP =>
    exact ⟨_, rfl, keeps_setR16 s _ _⟩
  case ldSPHL =>
    exact ⟨_, rfl, keeps_setR16 s .sp _⟩
  case pushBC | pushDE | pushHL | pushAF =>
    exact ⟨_, rfl, keeps_push16 s _⟩
  case popBC | popDE | popHL =>
    exact ⟨_, rfl, keeps_pop16_setR16Stk s _ _⟩
  case popAF =>
    exact ⟨_, rfl, keeps_pop16_setAF s _⟩
  case incB | incC | incD | incE | incH | incL | decB | decC | decD | decE | decH | decL | rlcB | rlcC | rlcD | rlcE
    | rlcH | rlcL | rrcB | rrcC | rrcD | rrcE | rrcH | rrcL | rlB | rlC | rlD | rlE | rlH | rlL | rrB | rrC | rrD
    | rrE | rrH | rrL | slaB | slaC | slaD | slaE | slaH | slaL | sraB | sraC | sraD | sraE | sraH | sraL | swapB
    | swapC | swapD | swapE | swapH | swapL | srlB | srlC | srlD | srlE | srlH | srlL =>
    exact ⟨_, rfl, keeps_putReg s _ _⟩
  case incA | decA | rlcA | rrcA | rlA | rrA | slaA | sraA | swapA | srlA | rlca | rrca | rla | rra | daa | addAB
    | addAC | addAD | addAE | addAH | addAL | addAA | adcAB | adcAC | adcAD | adcAE | adcAH | adcAL | adcAA | subAB
    | subAC | subAD | subAE | subAH | subAL | subAA | sbcAB | sbcAC | sbcAD | sbcAE | sbcAH | sbcAL | sbcAA | andAB
    | andAC | andAD | andAE | andAH | andAL | andAA | xorAB | xorAC | xorAD | xorAE | xorAH | xorAL | xorAA | orAB
    | orAC | orAD | orAE | orAH | orAL | orAA | addAN8 _ | adcAN8 _ | subAN8 _ | sbcAN8 _ | andAN8 _ | xorAN8 _
    | orAN8 _ =>
    exact ⟨_, rfl, keeps_putReg_a s _⟩
  case addAAtHL | adcAAtHL | subAAtHL | sbcAAtHL | andAAtHL | xorAAtHL | orAAtHL =>
    exact ⟨_, rfl, (keeps_afterRead s s.hl).trans (keeps_putReg_a _ _)⟩
  case cpl =>
    exact ⟨_, rfl, (keeps_setReg s .a _).trans (keeps_setFlags _ _ _ _ _)⟩
  case cpAB | cpAC | cpAD | cpAE | cpAH | cpAL | cpAA | cpAN8 _ | scf | ccf | bit0B | bit0C | bit0D | bit0E | bit0H
    | bit0L | bit0A | bit1B | bit1C | bit1D | bit1E | bit1H | bit1L | bit1A | bit2B | bit2C | bit2D | bit2E | bit2H
    | bit2L | bit2A | bit3B | bit3C | bit3D | bit3E | bit3H | bit3L | bit3A | bit4B | bit4C | bit4D | bit4E | bit4H
    | bit4L | bit4A | bit5B | bit5C | bit5D | bit5E | bit5H | bit5L | bit5A | bit6B | bit6C | bit6D | bit6E | bit6H
    | bit6L | bit6A | bit7B | bit7C | bit7D | bit7E | bit7H | bit7L | bit7A =>
    exact ⟨_, rfl, keeps_setFlags s _ _ _ _⟩
  case cpAAtHL | bit0AtHL | bit1AtHL | bit2AtHL | bit3AtHL | bit4AtHL | bit5AtHL | bit6AtHL | bit7AtHL =>
    exact ⟨_, rfl, (keeps_afterRead s s.hl).trans (keeps_setFlags _ _ _ _ _)⟩
  case rlcAtHL | rrcAtHL | rlAtHL | rrAtHL | slaAtHL | sraAtHL | swapAtHL | srlAtHL | incAtHL | decAtHL =>
    exact ⟨_, rfl, (keeps_afterRead_memWrite s s.hl _ _).trans (keeps_setFlags _ _ _ _ _)⟩
  case addHLBC | addHLDE | addHLHL | addHLSP | ldHLSPE8 _ =>
    exact ⟨_, rfl, keeps_setR16_setFlags s .hl _ _ _ _ _⟩
  case addSPE8 _ =>
    exact ⟨_, rfl, keeps_setR16_setFlags s .sp _ _ _ _ _⟩
  case jrE8 _ | jpN16 _ | jpHL =>
    exact ⟨_, rfl, keeps_setPC s _⟩
  case jpNZN16 _ | jpZN16 _ | jpNCN16 _ | jpCN16 _ | jrNZE8 _ | jrZE8 _ | jrNCE8 _ | jrCE8 _ =>
    exact ⟨_, rfl, (keeps_setPC s _).ite _⟩
  case callN16 _ | rst00 | rst08 | rst10 | rst18 | rst20 | rst28 | rst30 | rst38 =>
    exact ⟨_, rfl, keeps_call s _⟩
  case callNZN16 _ | callZN16 _ | callNCN16 _ | callCN16 _ =>
    exact ⟨_, rfl, (keeps_call s _).ite _⟩
  case ret =>
    exact ⟨_, rfl, keeps_popPC s⟩
  case retNZ | retZ | retNC | retC =>
    exact ⟨_, rfl, (keeps_popPC s).ite _⟩
  case reti =>
    exact ⟨_, rfl, (keeps_popPC s).trans (keeps_control _ _ _ _ _)⟩
  -- the other loads, `RES` and `SET`, to a register
  all_goals
    exact ⟨_, rfl, keeps_setReg s _ _⟩

/-! ## The events of a step (R106) -/

theorem memoryWrite?_eq : memoryWrite? = Event.memory? := by
  funext e
  cases e <;> rfl

/-- A step that writes neither memory nor a register outputs nothing. -/
theorem stepEvents_eq_nil {s t : State} (hm : t.writes = []) (hr : stepWrites s t = []) : stepEvents s t = [] := by
  rw [List.eq_nil_iff_forall_not_mem]
  intro e he
  rcases mem_stepEvents he with ⟨w, hw, -⟩ | ⟨w, hw, -⟩
  · rw [hm] at hw; cases hw
  · simp [reports, hr] at hw

/-- The environment does not touch the flags that a condition reads. -/
theorem holds_atStart (cc : Cond) (s : State) : holds cc (atStart s) ↔ s.cond cc = true := by
  cases cc <;> simp [State.cond, holds, atStart, Flags.z, Flags.c]

/-- Only a running core that takes no interrupt executes. -/
theorem StepCase.runs_of_executed {s₀ t : State} (h : StepCase s₀ t) (hr : t.result = some .executed) :
    s₀.mode = .running ∧ s₀.irqToTake = none := by
  cases h with
  | stopped _ h | halted _ _ h | woken _ _ h | dispatched _ _ _ h => subst h; cases hr
  | executed i n m hm hk => exact ⟨hm, hk⟩

/-- A step that idles or wakes emits nothing. -/
theorem StepCase.writes_of_idle {s₀ t : State} (h : StepCase s₀ t) (h₀ : s₀.writes = [])
    (hr : t.result = some .idle ∨ t.result = some .woken) : t.writes = [] := by
  cases h with
  | stopped _ h | halted _ _ h | woken _ _ h => subst h; exact h₀
  | dispatched _ _ _ h => subst h; simp at hr
  | executed i n m _ _ _ _ he =>
    rw [he.cfg_env_result.2.2] at hr
    simp at hr

/-- The instructions that write neither a register nor memory. -/
def Silent (i : Instr) : Prop := i = .nop ∨ i = .di ∨ i = .ei ∨ i = .halt ∨ ∃ n, i = .stop n

theorem registersWritten_of_silent {i : Instr} (h : Silent i) : registersWritten i = [] := by
  rcases h with rfl | rfl | rfl | rfl | ⟨n, rfl⟩ <;> rfl

theorem writes_of_silent {i : Instr} {u v : State} (h : Silent i) (he : exec i u = .next v) : v.writes = u.writes := by
  rcases h with rfl | rfl | rfl | rfl | ⟨n, rfl⟩
  · cases he; rfl
  · cases he; rfl
  · cases he; rfl
  · change execHalt u = .next v at he
    unfold execHalt at he
    split at he <;> cases he <;> rfl
  · cases he; rfl

theorem stepWrites_of_idle {s t : State} (hr : t.result = some .idle ∨ t.result = some .woken) :
    stepWrites s t = [] := by
  unfold stepWrites
  rcases hr with hr | hr <;> rw [hr]

/-- The registers a step writes, where it executes the instruction `i`. -/
theorem stepWrites_of_executed {s t : State} {i : Instr} {n : Nat} (hr : t.result = some .executed)
    (hd : (atStart s).decodeNext = .ok (i, n)) :
    stepWrites s t = if (conditionOf i).all s.cond then registersWritten i else [] := by
  rw [atStart] at hd
  simp only [stepWrites, hr, hd]

/-- A step writes PC only where it takes an interrupt or a transfer of control. -/
theorem of_pc_mem_stepWrites {s t : State} (h : .pc ∈ stepWrites s t) :
    (∃ k, t.result = some (.dispatched k)) ∨ ∃ i n, t.result = some .executed ∧ (atStart s).decodeNext = .ok (i, n) ∧
      .pc ∈ registersWritten i ∧ ∀ cc, conditionOf i = some cc → holds cc (atStart s) := by
  unfold stepWrites at h
  split at h
  · rename_i hr
    split at h
    · rename_i i n hd
      split at h
      · rename_i hc
        refine .inr ⟨i, n, hr, hd, h, fun cc hcc => ?_⟩
        rw [hcc, Option.all_some] at hc
        exact (holds_atStart cc s).mpr hc
      · cases h
    · cases h
  · rename_i k hr
    exact .inl ⟨k, hr⟩
  all_goals cases h

/-- A reported write of PC is among the step's, with the value PC is left with. -/
theorem of_reports_pc {ws : List RegName} {t : State} {w : RegisterWrite} (h : reports ws t w = true)
    (hw : w.register = .pc) : .pc ∈ ws ∧ w.value = t.pc := by
  simpa [reports, hw, RegName.cells, State.named] using h

/-- Settles O52: every event of a step is one of its MemoryWrite events or reports a register write of the step, which
is a write of its instruction or of taking an interrupt; and `exec_keeps` is the last clause. -/
theorem eventsComeFromExecution : Obligations.EventsComeFromExecution := by
  intro s t h events ran
  have hc : StepCase (atStart s) t := step_cases h
  refine ⟨memoryWrite?_eq ▸ stepEvents_memory s t, fun he => ?_, fun he => ?_, fun hr => ?_, ?_, fun w hw hpc => ?_,
    fun i u v r he => ?_⟩
  · rcases mem_stepEvents he with ⟨_, _, he⟩ | ⟨_, _, he⟩ <;> cases he
  · rcases mem_stepEvents he with ⟨_, _, he⟩ | ⟨_, _, he⟩ <;> cases he
  · exact stepEvents_eq_nil (hc.writes_of_idle rfl hr) (stepWrites_of_idle hr)
  · rintro i ⟨hr, n, hd⟩ hi
    obtain ⟨hm, hk⟩ := hc.runs_of_executed hr
    have hw : t.writes = [] := by
      rw [writes_of_silent hi ((step_executes hm hk hd).symm.trans h), State.enter_writes, State.fetch_writes]
      rfl
    refine stepEvents_eq_nil hw ?_
    rw [stepWrites_of_executed hr hd, registersWritten_of_silent hi, ite_self]
  · obtain ⟨e, he, hew⟩ := List.mem_filterMap.mp hw
    rcases mem_stepEvents he with ⟨_, _, rfl⟩ | ⟨_, hreports, rfl⟩ <;> cases hew
    obtain ⟨hmem, hvalue⟩ := of_reports_pc hreports hpc
    refine ⟨hvalue, (of_pc_mem_stepWrites hmem).imp_right ?_⟩
    rintro ⟨i, n, hr, hd, hi⟩
    exact ⟨i, ⟨hr, n, hd⟩, hi⟩
  · obtain ⟨t, ht, hkeeps⟩ := exec_keeps i u
    cases he.symm.trans ht
    exact hkeeps r

end Sys2Proof.Machine
end

section
/-! PROOFS of the family 41_load8.md: the loads of a register, and the loads and stores of A and of memory at HL (R130 to
R146). Before them, the frame of an instruction that writes 8-bit registers only, and one store behind the flat Bus. -/

namespace Sys2Proof.Machine

open Claims

/-! ## The registers and the control state that stay -/

theorem State.named_regName (s : State) (r : Reg8) : s.named (regName r) = (s.reg r).setWidth 16 := by
  cases r <;> rfl

/-- A register operand is a cell of its own. -/
theorem cells_regName (r : Reg8) : (regName r).cells = [regName r] := by cases r <;> rfl

theorem regName_injective : Function.Injective regName := fun p q h => by
  cases p <;> cases q <;> cases h <;> rfl

/-- No register operand names F, SP or PC. -/
theorem not_mem_map_regName (rs : List Reg8) {n : RegName} (hn : n = .f ∨ n = .sp ∨ n = .pc) :
    n ∉ rs.map regName := by
  intro h
  obtain ⟨r, -, rfl⟩ := List.mem_map.mp h
  cases r <;> simp [regName] at hn

/-- Zero extension to 16 bits loses nothing of a byte. -/
theorem setWidth16_injective : Function.Injective (BitVec.setWidth 16 : Byte → Word) := fun v w h => by
  simpa using congrArg (BitVec.setWidth 8) h

/-- An update that writes the 8-bit registers `but` at most leaves the others, F, SP and PC as they were. -/
theorem Keeps.frame {s t : State} {but : List Reg8} (h : Keeps s t (but.map regName)) :
    Regs but s t ∧ t.f = s.f ∧ t.sp = s.sp ∧ t.pc = s.pc := by
  have cell (n : RegName) (hc : n.cells = [n]) (hn : n ∉ but.map regName) : t.named n = s.named n :=
    h n (by simpa only [hc, List.forall_mem_singleton] using hn)
  refine ⟨fun r hr => setWidth16_injective ?_, setWidth16_injective ?_, ?_, ?_⟩
  · calc (t.reg r).setWidth 16
      _ = t.named (regName r) := (t.named_regName r).symm
      _ = s.named (regName r) := cell _ (cells_regName r) (by rwa [List.mem_map_of_injective regName_injective])
      _ = (s.reg r).setWidth 16 := s.named_regName r
  · exact cell .f rfl (not_mem_map_regName but (.inl rfl))
  · exact cell .sp rfl (not_mem_map_regName but (.inr (.inl rfl)))
  · exact cell .pc rfl (not_mem_map_regName but (.inr (.inr rfl)))

/-- A plain instruction leaves the control state as it was. -/
theorem Plain.control {s t : State} (h : Plain s t) : Control s t :=
  ⟨h.ime, h.eiPending, h.haltBug, h.mode, h.result, h.env, h.cfg⟩

/-! ## Memory behind the flat Bus -/

/-- Two states of one machine with the same Bus state show the same bytes. -/
theorem State.peek_congr {s t : State} (hm : t.m = s.m) (hc : t.cfg = s.cfg) (x : Word) : t.peek x = s.peek x := by
  rw [State.peek, State.peek, hm, hc]

/-- Reads of the flat Bus change nothing. -/
theorem afterReads_flat {s : State} (h : Flat s) (reads : List Word) : afterReads reads s = s.m := by
  rw [afterReads, bus, h]
  induction reads with
  | nil => rfl
  | cons a reads ih => exact ih

/-- A change that makes reads only stores nothing, and behind the flat Bus it leaves every byte as it was. -/
theorem noStore_of_reads {reads : List Word} {s t : State} (hm : t.m = afterReads reads s) (hw : t.writes = s.writes)
    (hc : t.cfg = s.cfg) : NoStore reads s t :=
  ⟨hm, hw, fun h => State.peek_congr (hm.trans (afterReads_flat h reads)) hc⟩

/-- A change to memory that is one store stores one byte, and behind the flat Bus it leaves the other bytes as they
were. -/
theorem store1_of_memWrite {a : Word} {v : Byte} {s t : State} (hm : t.m = (s.memWrite a v).m)
    (hw : t.writes = (s.memWrite a v).writes) (hc : t.cfg = s.cfg) : Store1 [] a v s t := by
  refine ⟨hm, hw, fun h => ?_⟩
  have bytes (x : Word) : t.peek x = if x = a then v else s.peek x :=
    (State.peek_congr hm hc x).trans (State.peek_memWrite_flat h a v x)
  exact ⟨(bytes a).trans (if_pos rfl), fun x hx => (bytes x).trans (if_neg hx), hw⟩

/-! ## Loads and stores -/

/-- A plain change that writes the registers `but` and makes reads only. -/
theorem only_of_keeps {but : List Reg8} {reads : List Word} {s t : State} (hk : Keeps s t (but.map regName))
    (hp : Plain s t) (hm : t.m = afterReads reads s) (hw : t.writes = s.writes) : Only but reads s t := by
  obtain ⟨hregs, hf, hsp, hpc⟩ := hk.frame
  exact ⟨hf, hregs, hsp, hpc, hp.control, noStore_of_reads hm hw hp.cfg⟩

theorem loads_setReg (r : Reg8) (v : Byte) (s : State) : Loads r v s (s.setReg r v) :=
  ⟨by rw [State.reg_setReg, if_pos rfl],
    only_of_keeps (keeps_setReg s r v) (plain_setReg s r v) (s.setReg_m r v) (s.setReg_writes r v)⟩

theorem loadsFrom_setReg (r : Reg8) (a : Word) (s : State) :
    LoadsFrom r a s ((s.afterRead a).setReg r (s.readByte a)) :=
  ⟨by rw [State.reg_setReg, if_pos rfl],
    only_of_keeps (keeps_load s a r _) (plain_load s a r _) (State.setReg_m _ r _) (State.setReg_writes _ r _)⟩

theorem stores_memWrite (a : Word) (v : Byte) (s : State) : Stores a v s (s.memWrite a v) := by
  obtain ⟨hregs, hf, hsp, hpc⟩ := Keeps.frame (but := []) (keeps_memWrite s a v)
  exact ⟨store1_of_memWrite rfl rfl rfl, hregs, hf, hsp, hpc, (plain_memWrite s a v).control⟩

/-- A load of A from memory at HL, and then a write of HL. -/
theorem runs_load_setHL {i : Instr} {bytes : List Byte} {s : State} {x : Word} (hb : encode i = bytes)
    (he : exec i s = .next ({ s.afterHL with a := s.atHL }.setHL x)) :
    Runs i bytes s (fun t => t.a = s.readByte s.hl ∧ t.hl = x ∧ Only [.a, .h, .l] [s.hl] s t) :=
  ⟨hb, _, he, rfl, State.hl_setHL _ x,
    only_of_keeps (keeps_load_setHL s s.atHL x) (plain_loadMoveHL s s.atHL x) rfl rfl⟩

/-- A store of A to memory at HL, and then a write of HL. -/
theorem runs_store_setHL {i : Instr} {bytes : List Byte} {s : State} {x : Word} (hb : encode i = bytes)
    (he : exec i s = .next ((s.memWrite s.hl s.a).setHL x)) :
    Runs i bytes s (fun t => Store1 [] s.hl s.a s t ∧ t.hl = x ∧ Regs [.h, .l] s t ∧ t.f = s.f ∧ t.sp = s.sp ∧
      t.pc = s.pc ∧ Control s t) := by
  obtain ⟨hregs, hf, hsp, hpc⟩ := Keeps.frame (but := [.h, .l]) (keeps_memWrite_setHL s s.hl s.a x)
  exact ⟨hb, _, he, store1_of_memWrite rfl rfl rfl, State.hl_setHL _ x, hregs, hf, hsp, hpc,
    (plain_storeMoveHL s s.hl s.a x).control⟩

/-! ## The rows of each form: their opcode bytes and their meaning -/

theorem encode_ldR8R8 (dst src : Reg8) : encode (Form.ldR8R8 dst src) = [0x40 + 8 * code8 dst + code8 src] := by
  cases dst <;> cases src <;> rfl

theorem exec_ldR8R8 (dst src : Reg8) (s : State) : exec (Form.ldR8R8 dst src) s = ldR8R8 dst src s := by
  cases dst <;> cases src <;> rfl

theorem encode_ldR8N8 (dst : Reg8) (n : Byte) : encode (Form.ldR8N8 dst n) = [0x06 + 8 * code8 dst, n] := by
  cases dst <;> rfl

theorem exec_ldR8N8 (dst : Reg8) (n : Byte) (s : State) : exec (Form.ldR8N8 dst n) s = ldR8N8 dst n s := by
  cases dst <;> rfl

theorem encode_ldR8AtHL (dst : Reg8) : encode (Form.ldR8AtHL dst) = [0x46 + 8 * code8 dst] := by
  cases dst <;> rfl

theorem exec_ldR8AtHL (dst : Reg8) (s : State) : exec (Form.ldR8AtHL dst) s = ldR8AtHL dst s := by
  cases dst <;> rfl

theorem encode_ldAtHLR8 (src : Reg8) : encode (Form.ldAtHLR8 src) = [0x70 + code8 src] := by
  cases src <;> rfl

theorem exec_ldAtHLR8 (src : Reg8) (s : State) : exec (Form.ldAtHLR8 src) s = ldAtHLR8 src s := by
  cases src <;> rfl

theorem encode_ldAAtPtr (p : R16Ptr) : encode (Form.ldAAtPtr p) = [0x0A + 16 * codePtr p] := by
  cases p <;> rfl

theorem exec_ldAAtPtr (p : R16Ptr) (s : State) : exec (Form.ldAAtPtr p) s = ldAAtPtr p s := by
  cases p <;> rfl

theorem encode_ldAtPtrA (p : R16Ptr) : encode (Form.ldAtPtrA p) = [0x02 + 16 * codePtr p] := by
  cases p <;> rfl

theorem exec_ldAtPtrA (p : R16Ptr) (s : State) : exec (Form.ldAtPtrA p) s = ldAtPtrA p s := by
  cases p <;> rfl

/-- The address of the `LDH` forms as R143 to R146 write it. -/
theorem highPage_eq (v : Byte) : highPage v = 0xFF00 + v.setWidth 16 := by
  have hv : v.toNat < 256 := v.isLt
  apply BitVec.eq_of_toNat_eq
  rw [highPage, toNat_concat, BitVec.toNat_add, BitVec.toNat_setWidth]
  change 256 * 255 + v.toNat = (0xFF00 + v.toNat % 65536) % 65536
  omega

/-! ## The obligations -/

/-- Settles O2: each is one write of its register; the last form reads at the old HL before it. -/
theorem loadRegister : Obligations.LoadRegister := fun dst src n s =>
  ⟨⟨encode_ldR8R8 dst src, _, exec_ldR8R8 dst src s, loads_setReg dst (s.reg src) s⟩,
    ⟨encode_ldR8N8 dst n, _, exec_ldR8N8 dst n s, loads_setReg dst n s⟩,
    ⟨encode_ldR8AtHL dst, _, exec_ldR8AtHL dst s, loadsFrom_setReg dst s.hl s⟩⟩

/-- Settles O3: each is one store at HL. -/
theorem storeAtHL : Obligations.StoreAtHL := fun r n s =>
  ⟨⟨encode_ldAtHLR8 r, _, exec_ldAtHLR8 r s, stores_memWrite s.hl (s.reg r) s⟩,
    ⟨rfl, _, rfl, stores_memWrite s.hl n s⟩⟩

/-- Settles O4: each is a write of A after a read at the form's address. -/
theorem loadAccumulatorFromMemory : Obligations.LoadAccumulatorFromMemory := fun p n k s => by
  rw [← highPage_eq, ← highPage_eq]
  exact ⟨⟨encode_ldAAtPtr p, _, exec_ldAAtPtr p s, loadsFrom_setReg .a (s.r16Ptr p) s⟩,
    ⟨rfl, _, rfl, loadsFrom_setReg .a n s⟩,
    ⟨rfl, _, rfl, loadsFrom_setReg .a (highPage k) s⟩,
    ⟨rfl, _, rfl, loadsFrom_setReg .a (highPage s.c) s⟩⟩

/-- Settles O5: each is one store of A at the form's address. -/
theorem storeAccumulatorToMemory : Obligations.StoreAccumulatorToMemory := fun p n k s => by
  rw [← highPage_eq, ← highPage_eq]
  exact ⟨⟨encode_ldAtPtrA p, _, exec_ldAtPtrA p s, stores_memWrite (s.r16Ptr p) s.a s⟩,
    ⟨rfl, _, rfl, stores_memWrite n s.a s⟩,
    ⟨rfl, _, rfl, stores_memWrite (highPage k) s.a s⟩,
    ⟨rfl, _, rfl, stores_memWrite (highPage s.c) s.a s⟩⟩

/-- Settles O6: the rows differ in the value that HL takes after the load. -/
theorem loadAccumulatorAndMoveHL : Obligations.LoadAccumulatorAndMoveHL := fun _ =>
  ⟨runs_load_setHL rfl rfl, runs_load_setHL rfl rfl⟩

/-- Settles O7: the rows differ in the value that HL takes after the store. -/
theorem storeAccumulatorAndMoveHL : Obligations.StoreAccumulatorAndMoveHL := fun _ =>
  ⟨runs_store_setHL rfl rfl, runs_store_setHL rfl rfl⟩

end Sys2Proof.Machine
end

section
/-! PROOFS of the family 42_load16_stack.md: the 16-bit loads, SP plus an offset (and 44_alu16.md R223), and the stack
(R160 to R167). Before them, what they share: the registers that an update leaves, a write of the flags, and two stores
in order. -/

namespace Sys2Proof.Machine

open Claims

/-! ## Registers, flags and memory after an update -/

/-- An update that writes the 8-bit registers `but` at most, besides F, SP and PC, leaves the other 8-bit registers. -/
theorem Keeps.regs {s t : State} {ws : List RegName} {but : List Reg8} (h : Keeps s t ws)
    (hw : ws ⊆ but.map regName ++ [.f, .sp, .pc]) : Regs but s t := by
  intro r hr
  have unwritten : regName r ∉ ws := fun hmem => by
    rcases List.mem_append.mp (hw hmem) with hbut | hspecial
    · exact hr ((List.mem_map_of_injective regName_injective).mp hbut)
    · cases r <;> simp [regName] at hspecial
  apply setWidth16_injective
  calc (t.reg r).setWidth 16
    _ = t.named (regName r) := (t.named_regName r).symm
    _ = s.named (regName r) := h _ (by simpa only [cells_regName, List.forall_mem_singleton] using unwritten)
    _ = (s.reg r).setWidth 16 := s.named_regName r

/-- A write of the four flags sets their bits and leaves bits 3..0 of F. -/
theorem flagsAre_of_write {s t : State} {z n h c : Bool} (ht : t.f = Flags.write s.f z n h c) :
    FlagsAre z n h c s t := by
  rw [FlagsAre, ht]
  exact ⟨Flags.z_write _ _ _ _ _, Flags.n_write _ _ _ _ _, Flags.h_write _ _ _ _ _, Flags.c_write _ _ _ _ _,
    Flags.low_write _ _ _ _ _⟩

/-- A change to memory that is a store and then a store elsewhere: behind the flat Bus the second leaves the first's
byte, and finds the byte that stood there at the start. -/
theorem store2_of_memWrite {a b : Word} {v w : Byte} {s t : State} (hab : b ≠ a)
    (hm : t.m = ((s.memWrite a v).memWrite b w).m) (hw : t.writes = ((s.memWrite a v).memWrite b w).writes)
    (hc : t.cfg = s.cfg) : Store2 a v b w s t := by
  have events : t.writes = s.writes ++ [⟨a, s.peek a, v⟩, ⟨b, (s.memWrite a v).peek b, w⟩] :=
    hw.trans (List.append_assoc _ _ _)
  refine ⟨hm, events, fun h => ?_⟩
  have h' : Flat (s.memWrite a v) := h
  have old (x : Word) : (s.memWrite a v).peek x = if x = a then v else s.peek x := State.peek_memWrite_flat h a v x
  have bytes (x : Word) : t.peek x = if x = b then w else if x = a then v else s.peek x := by
    rw [State.peek_congr hm hc x, State.peek_memWrite_flat h', old]
  refine ⟨?_, ?_, fun x hxa hxb => ?_, ?_⟩
  · rw [bytes, if_neg hab.symm, if_pos rfl]
  · rw [bytes, if_pos rfl]
  · rw [bytes, if_neg hxb, if_neg hxa]
  · rw [events, old, if_neg hab]

/-! ## Loads of a pair or SP -/

theorem State.r16_setR16 (s : State) (p : R16) (v : Word) : (s.setR16 p v).r16 p = v := by
  cases p with
  | bc => exact s.bc_setBC v
  | de => exact s.de_setDE v
  | hl => exact s.hl_setHL v
  | sp => rfl

theorem State.r16Stk_setR16Stk (s : State) (p : R16Stk) (v : Word) : (s.setR16Stk p v).r16Stk p = v := by
  cases p with
  | bc => exact s.bc_setBC v
  | de => exact s.de_setDE v
  | hl => exact s.hl_setHL v

/-- The 8-bit cells of a pair operand are its halves; SP has none. -/
theorem pairCells_subset (p : R16) : pairCells p ⊆ (halves p).map regName ++ [.f, .sp, .pc] := by
  cases p <;> decide

theorem pairIs_setR16 (p : R16) (v : Word) (s : State) : PairIs p v s (s.setR16 p v) :=
  ⟨s.r16_setR16 p v, (keeps_setR16 s p v).regs (pairCells_subset p),
    fun hp => (s.setR16_sp p v).trans (if_neg hp), s.setR16_f p v, s.setR16_pc p v, (plain_setR16 s p v).control,
    noStore_of_reads (s.setR16_m p v) (s.setR16_writes p v) (s.setR16_cfg p v)⟩

/-- A load of a pair or SP and then a write of the flags. -/
theorem setR16_setFlags_effect {p : R16} {v : Word} {z n h c : Bool} {s t : State}
    (ht : t = (s.setR16 p v).setFlags z n h c) :
    t.r16 p = v ∧ FlagsAre z n h c s t ∧ Regs (halves p) s t ∧ (p ≠ .sp → t.sp = s.sp) ∧ t.pc = s.pc ∧ Control s t ∧
      NoStore [] s t := by
  subst ht
  obtain ⟨hv, hregs, hsp, hf, hpc, hcontrol, hmem⟩ := pairIs_setR16 p v s
  refine ⟨?_, flagsAre_of_write (by rw [State.setFlags_f, hf]), hregs, hsp, hpc, hcontrol, hmem⟩
  cases p <;> exact hv

/-! The flags of SP plus an offset are those of the raw operand byte (R163, R223). -/

theorem addSpE8_signExtend_h (sp : Word) (k : Byte) :
    (addSpE8 sp (k.signExtend 16)).h = decide (sp.toNat % 16 + k.toNat % 16 > 15) := by
  rw [addSpE8, lo_signExtend]

theorem addSpE8_signExtend_c (sp : Word) (k : Byte) :
    (addSpE8 sp (k.signExtend 16)).c = decide (sp.toNat % 256 + k.toNat > 255) := by
  rw [addSpE8, lo_signExtend]

/-! ## The stack -/

theorem push16_effect (v : Word) (s : State) :
    Store2 (s.sp - 1) (hi v) (s.sp - 2) (lo v) s (s.push16 v) ∧ (s.push16 v).sp = s.sp - 2 ∧
      (s.push16 v).pc = s.pc ∧ OnlyPcSp s (s.push16 v) := by
  have second : s.sp - 1 - 1 = s.sp - 2 := by rw [sub_sub]; rfl
  rw [← second]
  have apart : s.sp - 1 - 1 ≠ s.sp - 1 := by simp
  exact ⟨store2_of_memWrite apart rfl rfl rfl, rfl, rfl, (keeps_push16 s v).regs (by decide), rfl,
    (plain_push16 s v).control⟩

/-- A pop reads its low byte at SP and then its high byte at SP+1. -/
theorem State.pop16_value (s : State) : s.pop16.1 = concat (readSecond s.sp (s.sp + 1) s) (s.readByte s.sp) := rfl

theorem State.pop16_sp (s : State) : s.pop16.2.sp = s.sp + 2 := by
  rw [State.pop16_state_sp, add_assoc]; rfl

/-! ## The rows of each form: their opcode bytes and their meaning -/

theorem encode_ldR16N16 (p : R16) (n : Word) : encode (Form.ldR16N16 p n) = [0x01 + 16 * code16 p, lo n, hi n] := by
  cases p <;> rfl

theorem exec_ldR16N16 (p : R16) (n : Word) (s : State) : exec (Form.ldR16N16 p n) s = ldR16N16 p n s := by
  cases p <;> rfl

theorem encode_pushR16 (p : R16Stk) : encode (Form.pushR16 p) = [0xC5 + 16 * codeStk p] := by
  cases p <;> rfl

theorem exec_pushR16 (p : R16Stk) (s : State) : exec (Form.pushR16 p) s = pushR16 p s := by
  cases p <;> rfl

theorem encode_popR16 (p : R16Stk) : encode (Form.popR16 p) = [0xC1 + 16 * codeStk p] := by
  cases p <;> rfl

theorem exec_popR16 (p : R16Stk) (s : State) : exec (Form.popR16 p) s = popR16 p s := by
  cases p <;> rfl

/-- An `e8` operand is encoded as its raw byte (30_encoding.md R92). -/
theorem encode_ldHLSPE8 (k : Byte) : encode (.ldHLSPE8 (k.signExtend 16)) = [0xF8, k] :=
  congrArg ([0xF8, ·]) (lo_signExtend k)

theorem encode_addSPE8 (k : Byte) : encode (.addSPE8 (k.signExtend 16)) = [0xE8, k] :=
  congrArg ([0xE8, ·]) (lo_signExtend k)

/-! ## The obligations -/

/-- Settles O8: each is one write of a pair or SP. -/
theorem loadPairOrStackPointer : Obligations.LoadPairOrStackPointer := fun p n s =>
  ⟨⟨encode_ldR16N16 p n, _, exec_ldR16N16 p n s, pairIs_setR16 p n s⟩, ⟨rfl, _, rfl, pairIs_setR16 .sp s.hl s⟩⟩

/-- Settles O9: two stores, at an address and the next. -/
theorem storeStackPointerAbsolute : Obligations.StoreStackPointerAbsolute := fun n s => by
  have apart : n + 1 ≠ n := by simp
  exact ⟨rfl, _, rfl, store2_of_memWrite apart rfl rfl rfl, (keeps_memWrite16 s n s.sp).regs (by decide), rfl, rfl, rfl,
    (plain_memWrite16 s n s.sp).control⟩

/-- Settles O10: each writes the sum, to HL or to SP, and then the flags; an operand's low byte is the raw byte. -/
theorem stackPointerPlusOffset : Obligations.StackPointerPlusOffset := fun k s => by
  rw [← addSpE8_signExtend_h, ← addSpE8_signExtend_c]
  constructor
  · refine ⟨encode_ldHLSPE8 k, _, rfl, ?_⟩
    obtain ⟨hv, hflags, hregs, hsp, hpc, hcontrol, hmem⟩ := setR16_setFlags_effect (p := .hl) (s := s) rfl
    exact ⟨hv, hflags, hregs, hsp (by decide), hpc, hcontrol, hmem⟩
  · refine ⟨encode_addSPE8 k, _, rfl, ?_⟩
    obtain ⟨hv, hflags, hregs, -, hpc, hcontrol, hmem⟩ := setR16_setFlags_effect (p := .sp) (s := s) rfl
    exact ⟨hv, hflags, hregs, hpc, hcontrol, hmem⟩

/-- Settles O11: each pushes a word; A and F are the halves of AF. -/
theorem pushPair : Obligations.PushPair := fun p s => by
  refine ⟨⟨encode_pushR16 p, _, exec_pushR16 p s, push16_effect (s.r16Stk p) s⟩, rfl, _, rfl, ?_⟩
  have haf := push16_effect s.af s
  rwa [State.af, hi_concat, lo_concat] at haf

/-- Settles O12: the popped word goes to the pair. -/
theorem popPair : Obligations.PopPair := fun p s => by
  have hkeeps := keeps_pop16_setR16Stk s p s.pop16.1
  exact ⟨encode_popR16 p, _, exec_popR16 p s, State.r16Stk_setR16Stk _ p _,
    (State.setR16Stk_sp _ p _).trans s.pop16_sp, hkeeps.regs (by simp), State.setR16Stk_f _ p _,
    State.setR16Stk_pc _ p _, (plain_popR16 s p _).control,
    noStore_of_reads (State.setR16Stk_m _ p _) (State.setR16Stk_writes _ p _) (State.setR16Stk_cfg _ p _)⟩

/-- Settles O13: the popped word's halves go to A and, masked, to F. -/
theorem popAF : Obligations.PopAF := fun s => by
  have hkeeps := keeps_pop16_setAF s s.pop16.1
  refine ⟨rfl, _, rfl, ?_, ?_, s.pop16_sp, hkeeps.regs (by decide), rfl, (plain_popAF s _).control,
    noStore_of_reads rfl rfl rfl⟩
  · rw [State.setAF_a, State.pop16_value, hi_concat]
  · rw [State.setAF_f, State.pop16_value, lo_concat]

end Sys2Proof.Machine
end

section
/-! PROOFS of the family 43_alu8.md: "ALU A, src" over its three sources, `INC` and `DEC`, `DAA`, and the rows on A and
the carry flag (R180 to R212). Before them, what they share: an update of registers and flags after reads, and one store
after reads. -/

namespace Sys2Proof.Machine

open Claims

/-! ## Updates after reads -/

/-- The state that reads at some addresses leave, in order: only the Bus may have changed. -/
def State.afterAll (reads : List Word) (s : State) : State := { s with m := afterReads reads s }

/-- No read leaves the state as it was. -/
theorem State.afterAll_nil (s : State) : s.afterAll [] = s := rfl

theorem State.afterAll_singleton (a : Word) (s : State) : s.afterAll [a] = s.afterRead a := rfl

theorem State.afterAll_flat {s : State} (h : Flat s) (reads : List Word) : s.afterAll reads = s := by
  rw [State.afterAll, afterReads_flat h]

/-- An update after reads that writes F and the registers `but` at most, and makes no transaction. -/
theorem onlyFlagsAnd_of_keeps {ws : List RegName} {but : List Reg8} {reads : List Word} {s t : State}
    (hk : Keeps (s.afterAll reads) t ws) (hws : ws ⊆ but.map regName ++ [.f]) (hp : Plain (s.afterAll reads) t)
    (hm : t.m = afterReads reads s) (hw : t.writes = s.writes) : OnlyFlagsAnd but reads s t := by
  have unwritten (n : RegName) (hn : n = .sp ∨ n = .pc) : n ∉ ws := fun h => by
    rcases List.mem_append.mp (hws h) with hbut | hf
    · exact not_mem_map_regName but (.inr hn) hbut
    · rcases hn with rfl | rfl <;> simp at hf
  refine ⟨hk.regs (List.Subset.trans hws (by simp)), hk .sp ?_, hk .pc ?_, hp.control,
    noStore_of_reads hm hw hp.cfg⟩
  · simpa [RegName.cells] using unwritten .sp (.inl rfl)
  · simpa [RegName.cells] using unwritten .pc (.inr rfl)

/-- A write of the four flags after reads. -/
theorem setFlags_effect (z n h c : Bool) (reads : List Word) (s : State) :
    FlagsAre z n h c s ((s.afterAll reads).setFlags z n h c) ∧
      OnlyFlagsAnd [] reads s ((s.afterAll reads).setFlags z n h c) :=
  ⟨flagsAre_of_write rfl, onlyFlagsAnd_of_keeps (keeps_setFlags _ z n h c) (by simp) (plain_setFlags _ z n h c) rfl rfl⟩

/-- A result to a register, with its flags, after reads. -/
theorem putReg_effect (r : Reg8) (o : AluOut) (reads : List Word) (s : State) :
    ((s.afterAll reads).putReg r o).reg r = o.res ∧
      FlagsAre o.z o.n o.h o.c s ((s.afterAll reads).putReg r o) ∧
      OnlyFlagsAnd [r] reads s ((s.afterAll reads).putReg r o) := by
  refine ⟨?_, flagsAre_of_write (State.putReg_f _ r o), onlyFlagsAnd_of_keeps (keeps_putReg _ r o) (by simp)
    (plain_putReg _ r o) (State.putReg_m _ r o) (State.putReg_writes _ r o)⟩
  cases r <;> rfl

/-- A change to memory that is one store after reads. -/
theorem store1_of_reads_memWrite {reads : List Word} {a : Word} {v : Byte} {s t : State}
    (hm : t.m = ((s.afterAll reads).memWrite a v).m) (hw : t.writes = ((s.afterAll reads).memWrite a v).writes)
    (hc : t.cfg = s.cfg) : Store1 reads a v s t := by
  refine ⟨hm, hw, fun h => ?_⟩
  rw [State.afterAll_flat h] at hm hw
  obtain ⟨-, -, hbytes⟩ := store1_of_memWrite hm hw hc
  exact hbytes h

/-- A byte read at HL, and a result stored there with its flags (20_memory.md R58). -/
theorem putAtHL_effect (o : AluOut) (s : State) :
    Rewrites o.res s (s.afterHL.putAtHL o) ∧ FlagsAre o.z o.n o.h o.c s (s.afterHL.putAtHL o) := by
  have hkeeps : Keeps s (s.afterHL.putAtHL o) [.f] :=
    (keeps_afterRead_memWrite s s.hl s.hl o.res).trans (keeps_setFlags _ _ _ _ _)
  exact ⟨⟨store1_of_reads_memWrite rfl rfl rfl, hkeeps.regs (by decide), rfl, rfl,
    (plain_putAtHL_afterHL s o).control⟩, flagsAre_of_write rfl⟩

/-! ## "ALU A, src" (R180) -/

/-- What an operation with source value `b`, read at `reads`, does, in the terms of the statements. -/
def AluEffect (op : AluOp) (b : Byte) (reads : List Word) (s t : State) : Prop :=
  match op with
  | .add => Added b reads false s t
  | .adc => Added b reads (Flags.c s.f) s t
  | .sub => Subtracted b reads false s t
  | .sbc => Subtracted b reads (Flags.c s.f) s t
  | .and => Logic (s.a &&& b) reads true s t
  | .xor => Logic (s.a ^^^ b) reads false s t
  | .or => Logic (s.a ||| b) reads false s t
  | .cp => Compared b reads s t

theorem added_putReg (b : Byte) (reads : List Word) (ci : Bool) (s : State) :
    Added b reads ci s ((s.afterAll reads).putReg .a (add8 s.a b ci)) := by
  obtain ⟨hres, hflags, honly⟩ := putReg_effect .a (add8 s.a b ci) reads s
  exact ⟨(congrArg BitVec.toNat hres).trans (toNat_add8_res s.a b ci), hflags, honly⟩

/-- The flags of `sub8` are those of its result and its borrows. -/
theorem borrowFlags_of_sub8 {b : Byte} {ci : Bool} {s t : State} {r : Byte} (hr : r = (sub8 s.a b ci).res)
    (h : FlagsAre (sub8 s.a b ci).z (sub8 s.a b ci).n (sub8 s.a b ci).h (sub8 s.a b ci).c s t) :
    BorrowFlags r b ci s t := by
  rw [sub8_h, sub8_c] at h
  subst hr
  exact h

theorem subtracted_putReg (b : Byte) (reads : List Word) (ci : Bool) (s : State) :
    Subtracted b reads ci s ((s.afterAll reads).putReg .a (sub8 s.a b ci)) := by
  obtain ⟨hres, hflags, honly⟩ := putReg_effect .a (sub8 s.a b ci) reads s
  exact ⟨(congrArg BitVec.toNat hres).trans (toNat_sub8_res s.a b ci), borrowFlags_of_sub8 hres hflags, honly⟩

theorem compared_putFlags (b : Byte) (reads : List Word) (s : State) :
    Compared b reads s ((s.afterAll reads).putFlags (sub8 s.a b false)) := by
  obtain ⟨hflags, honly⟩ := setFlags_effect _ _ _ _ reads s
  exact ⟨borrowFlags_of_sub8 (sub8_res s.a b).symm hflags, honly⟩

/-- The shape of `and8`, `xor8` and `or8`. -/
theorem logic_putReg (v : Byte) (reads : List Word) (h : Bool) (s : State) :
    Logic v reads h s ((s.afterAll reads).putReg .a ⟨v, v == 0, false, h, false⟩) :=
  putReg_effect .a ⟨v, v == 0, false, h, false⟩ reads s

/-- Every operation completes, with its effect. -/
theorem alu_effect (op : AluOp) (b : Byte) (reads : List Word) (s : State) :
    ∃ t, alu op b (s.afterAll reads) = .next t ∧ AluEffect op b reads s t := by
  cases op with
  | add => exact ⟨_, rfl, added_putReg b reads false s⟩
  | adc => exact ⟨_, rfl, added_putReg b reads (Flags.c s.f) s⟩
  | sub => exact ⟨_, rfl, subtracted_putReg b reads false s⟩
  | sbc => exact ⟨_, rfl, subtracted_putReg b reads (Flags.c s.f) s⟩
  | and => exact ⟨_, rfl, logic_putReg (s.a &&& b) reads true s⟩
  | xor => exact ⟨_, rfl, logic_putReg (s.a ^^^ b) reads false s⟩
  | or => exact ⟨_, rfl, logic_putReg (s.a ||| b) reads false s⟩
  | cp => exact ⟨_, rfl, compared_putFlags b reads s⟩

/-! ### The rows of each source: their opcode bytes and their meaning -/

/-- The row of an operation with a register source. -/
def AluOp.rowR8 : AluOp → Reg8 → Instr
  | .add => Form.addAR8 | .adc => Form.adcAR8 | .sub => Form.subAR8 | .sbc => Form.sbcAR8
  | .and => Form.andAR8 | .xor => Form.xorAR8 | .or => Form.orAR8 | .cp => Form.cpAR8

/-- The row of an operation with memory at HL as its source. -/
def AluOp.rowAtHL : AluOp → Instr
  | .add => .addAAtHL | .adc => .adcAAtHL | .sub => .subAAtHL | .sbc => .sbcAAtHL
  | .and => .andAAtHL | .xor => .xorAAtHL | .or => .orAAtHL | .cp => .cpAAtHL

/-- The row of an operation with an immediate source. -/
def AluOp.rowN8 : AluOp → Byte → Instr
  | .add => .addAN8 | .adc => .adcAN8 | .sub => .subAN8 | .sbc => .sbcAN8
  | .and => .andAN8 | .xor => .xorAN8 | .or => .orAN8 | .cp => .cpAN8

/-- The first opcode byte of an operation's rows. -/
def AluOp.opcode : AluOp → Byte
  | .add => 0x80 | .adc => 0x88 | .sub => 0x90 | .sbc => 0x98 | .and => 0xA0 | .xor => 0xA8 | .or => 0xB0 | .cp => 0xB8

theorem encode_rowR8 (op : AluOp) (r : Reg8) : encode (op.rowR8 r) = [op.opcode + code8 r] := by
  cases op <;> cases r <;> rfl

theorem exec_rowR8 (op : AluOp) (r : Reg8) (s : State) : exec (op.rowR8 r) s = aluR8 op r s := by
  cases op <;> cases r <;> rfl

theorem encode_rowAtHL (op : AluOp) : encode op.rowAtHL = [op.opcode + 6] := by cases op <;> rfl

theorem exec_rowAtHL (op : AluOp) (s : State) : exec op.rowAtHL s = aluAtHL op s := by cases op <;> rfl

theorem encode_rowN8 (op : AluOp) (n : Byte) : encode (op.rowN8 n) = [op.opcode + 0x46, n] := by cases op <;> rfl

theorem exec_rowN8 (op : AluOp) (n : Byte) (s : State) : exec (op.rowN8 n) s = aluN8 op n s := by cases op <;> rfl

theorem runs_rowR8 (op : AluOp) (r : Reg8) (s : State) :
    Runs (op.rowR8 r) [op.opcode + code8 r] s (AluEffect op (s.reg r) [] s) :=
  ⟨encode_rowR8 op r, by simpa only [exec_rowR8, aluR8, State.afterAll_nil] using alu_effect op (s.reg r) [] s⟩

theorem runs_rowAtHL (op : AluOp) (s : State) :
    Runs op.rowAtHL [op.opcode + 6] s (AluEffect op (s.readByte s.hl) [s.hl] s) := by
  refine ⟨encode_rowAtHL op, ?_⟩
  simpa only [exec_rowAtHL, aluAtHL, State.atHL, State.afterHL, State.afterAll_singleton] using
    alu_effect op (s.readByte s.hl) [s.hl] s

theorem runs_rowN8 (op : AluOp) (n : Byte) (s : State) :
    Runs (op.rowN8 n) [op.opcode + 0x46, n] s (AluEffect op n [] s) :=
  ⟨encode_rowN8 op n, by simpa only [exec_rowN8, aluN8, State.afterAll_nil] using alu_effect op n [] s⟩

/-! ## `INC` and `DEC` (R205 to R208) -/

theorem encode_incR8 (r : Reg8) : encode (Form.incR8 r) = [0x04 + 8 * code8 r] := by cases r <;> rfl

theorem exec_incR8 (r : Reg8) (s : State) : exec (Form.incR8 r) s = incR8 r s := by cases r <;> rfl

theorem encode_decR8 (r : Reg8) : encode (Form.decR8 r) = [0x05 + 8 * code8 r] := by cases r <;> rfl

theorem exec_decR8 (r : Reg8) (s : State) : exec (Form.decR8 r) s = decR8 r s := by cases r <;> rfl

theorem incFlags_of_inc8 {v : Byte} {s t : State}
    (h : FlagsAre (inc8 v (Flags.c s.f)).z false (inc8 v (Flags.c s.f)).h (Flags.c s.f) s t) : IncFlags v s t := by
  obtain ⟨hz, hh⟩ := inc8_flags v (Flags.c s.f)
  rwa [hz, hh] at h

theorem decFlags_of_dec8 {v : Byte} {s t : State}
    (h : FlagsAre (dec8 v (Flags.c s.f)).z true (dec8 v (Flags.c s.f)).h (Flags.c s.f) s t) : DecFlags v s t := by
  obtain ⟨hz, hh⟩ := dec8_flags v (Flags.c s.f)
  rwa [hz, hh] at h

/-! ## `DAA` on the results of `ADD` and `SUB` (R183, R189, R209) -/

/-- The two decimal digits of a BCD byte are its halves. -/
theorem toNat_bcd {n : Nat} (hn : n < 100) : (bcd n).toNat = 16 * (n / 10) + n % 10 := by
  rw [bcd, BitVec.toNat_ofNat]
  omega

/-- `DAA`'s result on numbers, after a sum. -/
theorem toNat_daa_add (a : Byte) (h c : Bool) :
    (daa a false h c).res.toNat =
      (a.toNat + (if daaHigh a false c then 0x60 else 0) + (if daaLow a false h then 0x06 else 0)) % 256 := by
  have ha := a.isLt
  rw [daa_eq]
  cases daaHigh a false c <;> cases daaLow a false h <;> simp [BitVec.toNat_add, Nat.mod_eq_of_lt ha]

/-- `DAA`'s result on numbers, after a difference: only the flags choose the corrections. -/
theorem toNat_daa_sub (a : Byte) (h c : Bool) :
    (daa a true h c).res.toNat = (a.toNat + 256 - (if c then 0x60 else 0) - (if h then 0x06 else 0)) % 256 := by
  have ha := a.isLt
  rw [daa_eq]
  cases h <;> cases c <;> simp [daaHigh, daaLow, BitVec.toNat_sub] <;> omega

/-- After `ADD` the carry and the sum's byte together say whether the exact sum is above 0x99. -/
theorem daaHigh_add8 (a b : Byte) :
    daaHigh (add8 a b false).res false (add8 a b false).c = decide (a.toNat + b.toNat > 0x99) := by
  have hc : (add8 a b false).c = decide (a.toNat + b.toNat > 255) := rfl
  rw [daaHigh, hc, toNat_add8_res, Bool.toNat_false, Bool.not_false, Bool.true_and, ← Bool.decide_or, decide_eq_decide]
  omega

/-- After `ADD` the half carry and the sum's low nibble together say whether the exact sum of the low nibbles is above
9. -/
theorem daaLow_add8 (a b : Byte) :
    daaLow (add8 a b false).res false (add8 a b false).h = decide (a.toNat % 16 + b.toNat % 16 > 9) := by
  have hh : (add8 a b false).h = decide (a.toNat % 16 + b.toNat % 16 > 15) := rfl
  rw [daaLow, hh, toNat_add8_res, Bool.toNat_false, Bool.not_false, Bool.true_and, ← Bool.decide_or, decide_eq_decide]
  omega

/-- `DAA` after `ADD` of BCD bytes: the high correction applies where the sum reaches 100, the low one where the sum of
the last digits reaches 10. -/
theorem daa_add8_bcd {x y : Nat} (hx : x < 100) (hy : y < 100) :
    let o := add8 (bcd x) (bcd y) false
    (daa o.res o.n o.h o.c).res = bcd ((x + y) % 100) ∧ ((daa o.res o.n o.h o.c).c = true ↔ 100 ≤ x + y) := by
  intro o
  have hhigh : daaHigh o.res false o.c = decide (100 ≤ x + y) := by
    rw [daaHigh_add8, toNat_bcd hx, toNat_bcd hy, decide_eq_decide]
    omega
  have hlow : daaLow o.res false o.h = decide (10 ≤ x % 10 + y % 10) := by
    rw [daaLow_add8, toNat_bcd hx, toNat_bcd hy, decide_eq_decide]
    omega
  have hn : o.n = false := rfl
  constructor
  · apply BitVec.eq_of_toNat_eq
    rw [hn, toNat_daa_add, hhigh, hlow, toNat_add8_res, toNat_bcd hx, toNat_bcd hy,
      toNat_bcd (Nat.mod_lt _ (by decide))]
    simp only [decide_eq_true_eq, Bool.toNat_false]
    split <;> split <;> omega
  · rw [hn, daa_eq, hhigh, decide_eq_true_eq]

/-- `DAA` after `SUB` of BCD bytes: the high correction applies where the difference borrows, the low one where the
difference of the last digits does. -/
theorem daa_sub8_bcd {x y : Nat} (hx : x < 100) (hy : y < 100) :
    let o := sub8 (bcd x) (bcd y) false
    (daa o.res o.n o.h o.c).res = bcd ((x + 100 - y) % 100) ∧ ((daa o.res o.n o.h o.c).c = true ↔ x < y) := by
  intro o
  have hc : o.c = decide (x < y) := by
    rw [sub8_c, toNat_bcd hx, toNat_bcd hy, Bool.toNat_false, decide_eq_decide]
    omega
  have hh : o.h = decide (x % 10 < y % 10) := by
    rw [sub8_h, toNat_bcd hx, toNat_bcd hy, Bool.toNat_false, decide_eq_decide]
    omega
  have hn : o.n = true := rfl
  constructor
  · apply BitVec.eq_of_toNat_eq
    rw [hn, toNat_daa_sub, hc, hh, toNat_sub8_res, toNat_bcd hx, toNat_bcd hy,
      toNat_bcd (Nat.mod_lt _ (by decide))]
    simp only [decide_eq_true_eq, Bool.toNat_false]
    split <;> split <;> omega
  · rw [hn, daa_eq, hc]
    simp [daaHigh]

/-- `DAA` on the state that a result to A leaves. -/
theorem exec_daa_putReg (o : AluOut) (s : State) :
    ∃ u, exec .daa (s.putReg .a o) = .next u ∧ u.a = (daa o.res o.n o.h o.c).res ∧
      u.f.getLsbD 4 = (daa o.res o.n o.h o.c).c := by
  refine ⟨(s.putReg .a o).putReg .a (daa o.res o.n o.h o.c), ?_, rfl, Flags.c_write _ _ _ _ _⟩
  show execDaa (s.putReg .a o) = _
  simp [execDaa]

/-! ## The obligations -/

/-- Settles O14: the six forms are `ADD` and `ADC` over the three sources. -/
theorem addToAccumulator : Obligations.AddToAccumulator := fun r n s =>
  ⟨runs_rowR8 .add r s, runs_rowAtHL .add s, runs_rowN8 .add n s,
    runs_rowR8 .adc r s, runs_rowAtHL .adc s, runs_rowN8 .adc n s⟩

/-- Settles O15: the six forms are `SUB` and `SBC` over the three sources. -/
theorem subtractFromAccumulator : Obligations.SubtractFromAccumulator := fun r n s =>
  ⟨runs_rowR8 .sub r s, runs_rowAtHL .sub s, runs_rowN8 .sub n s,
    runs_rowR8 .sbc r s, runs_rowAtHL .sbc s, runs_rowN8 .sbc n s⟩

/-- Settles O16: the nine forms are `AND`, `XOR` and `OR` over the three sources. -/
theorem logicOnAccumulator : Obligations.LogicOnAccumulator := fun r n s =>
  ⟨runs_rowR8 .and r s, runs_rowAtHL .and s, runs_rowN8 .and n s,
    runs_rowR8 .xor r s, runs_rowAtHL .xor s, runs_rowN8 .xor n s,
    runs_rowR8 .or r s, runs_rowAtHL .or s, runs_rowN8 .or n s⟩

/-- Settles O17: `CP` over the three sources. -/
theorem compareWithAccumulator : Obligations.CompareWithAccumulator := fun r n s =>
  ⟨runs_rowR8 .cp r s, runs_rowAtHL .cp s, runs_rowN8 .cp n s⟩

/-- Settles O18: each is a result to the register, with the flags of `inc8` or `dec8`. -/
theorem incrementDecrementRegister : Obligations.IncrementDecrementRegister := fun r s => by
  constructor
  · obtain ⟨hres, hflags, honly⟩ := putReg_effect r (inc8 (s.reg r) (Flags.c s.f)) [] s
    exact ⟨encode_incR8 r, _, exec_incR8 r s, hres, incFlags_of_inc8 hflags, honly⟩
  · obtain ⟨hres, hflags, honly⟩ := putReg_effect r (dec8 (s.reg r) (Flags.c s.f)) [] s
    exact ⟨encode_decR8 r, _, exec_decR8 r s, hres, decFlags_of_dec8 hflags, honly⟩

/-- Settles O19: each is a result to memory at HL, with the flags of `inc8` or `dec8`. -/
theorem incrementDecrementMemory : Obligations.IncrementDecrementMemory := fun s => by
  constructor
  · obtain ⟨hrewrites, hflags⟩ := putAtHL_effect (inc8 s.atHL (Flags.c s.f)) s
    exact ⟨rfl, _, rfl, hrewrites, incFlags_of_inc8 hflags⟩
  · obtain ⟨hrewrites, hflags⟩ := putAtHL_effect (dec8 s.atHL (Flags.c s.f)) s
    exact ⟨rfl, _, rfl, hrewrites, decFlags_of_dec8 hflags⟩

/-- Settles O20: the corrections of R209, taken in order, are one wrapping sum or difference (`daa_eq`). -/
theorem decimalAdjust : Obligations.DecimalAdjust := fun s => by
  refine ⟨rfl, _, congrArg (fun o => Host.Outcome.next (s.putReg .a o)) (daa_eq s.a _ _ _), ?_⟩
  exact putReg_effect .a _ [] s

/-- Settles O21: `DAA` on the results of `add8` and `sub8`. -/
theorem decimalAdjustIsDecimalArithmetic : Obligations.DecimalAdjustIsDecimalArithmetic := fun x y s hx hy ha => by
  constructor
  · obtain ⟨u, hdaa, hres, hc⟩ := exec_daa_putReg (add8 s.a (bcd y) false) s
    obtain ⟨hsum, hcarry⟩ := daa_add8_bcd hx hy
    rw [← ha] at hsum hcarry
    exact ⟨_, u, rfl, hdaa, hres.trans hsum, by rw [hc, hcarry]⟩
  · obtain ⟨u, hdaa, hres, hc⟩ := exec_daa_putReg (sub8 s.a (bcd y) false) s
    obtain ⟨hdiff, hborrow⟩ := daa_sub8_bcd hx hy
    rw [← ha] at hdiff hborrow
    exact ⟨_, u, rfl, hdaa, hres.trans hdiff, by rw [hc, hborrow]⟩

/-- Settles O22: `CPL` is a result to A with its flags, `SCF` and `CCF` write the flags only. -/
theorem complementAndCarryFlag : Obligations.ComplementAndCarryFlag := fun s =>
  ⟨⟨rfl, _, rfl, putReg_effect .a ⟨s.a ^^^ 0xFF, Flags.z s.f, true, true, Flags.c s.f⟩ [] s⟩,
    ⟨rfl, _, rfl, setFlags_effect (Flags.z s.f) false false true [] s⟩,
    ⟨rfl, _, rfl, setFlags_effect (Flags.z s.f) false false (!Flags.c s.f) [] s⟩⟩

end Sys2Proof.Machine
end

section
/-! PROOFS of the family 44_alu16.md: the sum to HL with its flags, and the pairs one up or down (R220 to R222). `ADD SP`
(R223) stands with SP plus an offset in the family 42_load16_stack.md. -/

namespace Sys2Proof.Machine

open Claims

/-! ## The rows of each form: their opcode bytes and their meaning -/

theorem encode_addHLR16 (p : R16) : encode (Form.addHLR16 p) = [0x09 + 16 * code16 p] := by cases p <;> rfl

theorem exec_addHLR16 (p : R16) (s : State) : exec (Form.addHLR16 p) s = addHLR16 p s := by cases p <;> rfl

theorem encode_incR16 (p : R16) : encode (Form.incR16 p) = [0x03 + 16 * code16 p] := by cases p <;> rfl

theorem exec_incR16 (p : R16) (s : State) : exec (Form.incR16 p) s = incR16 p s := by cases p <;> rfl

theorem encode_decR16 (p : R16) : encode (Form.decR16 p) = [0x0B + 16 * code16 p] := by cases p <;> rfl

theorem exec_decR16 (p : R16) (s : State) : exec (Form.decR16 p) s = decR16 p s := by cases p <;> rfl

/-! ## The obligations -/

/-- Settles O23: a write of the wrapping sum to HL, and then of the flags, with H and C as `add16` gives them and the old
Z. -/
theorem addPairToHL : Obligations.AddPairToHL := fun p s => by
  refine ⟨encode_addHLR16 p, _, exec_addHLR16 p s, ?_⟩
  obtain ⟨hsum, hflags, hregs, hsp, hpc, hcontrol, hmem⟩ := setR16_setFlags_effect (p := .hl) (s := s) rfl
  exact ⟨hsum, hflags, hregs, hsp (by decide), hpc, hcontrol, hmem⟩

/-- Settles O24: each is one write of the pair, which leaves F. -/
theorem incrementDecrementPair : Obligations.IncrementDecrementPair := fun p s =>
  ⟨⟨encode_incR16 p, _, exec_incR16 p s, pairIs_setR16 p (s.r16 p + 1) s⟩,
    ⟨encode_decR16 p, _, exec_decR16 p s, pairIs_setR16 p (s.r16 p - 1) s⟩⟩

end Sys2Proof.Machine
end

section
/-! PROOFS of the family 45_rotate_shift_bit.md: the rotates and shifts of A, of a register and of memory at HL, and the
single bits (R240 to R266). Before them, the shift function on numbers, and memory at HL rewritten with F as it was. -/

namespace Sys2Proof.Machine

open Claims

/-! ## The shift function (R240) -/

/-- The result of the shift function is the table's, on numbers. -/
theorem toNat_sh (op : ShiftOp) (x : Byte) (c : Bool) : (sh op x c).1.toNat = shifted op x.toNat c.toNat := by
  obtain ⟨hrlc, hrrc, hrl, hrr, hsla, hsra, hswap, hsrl⟩ := sh_table x c
  cases op with
  | rlc => exact hrlc
  | rrc => exact hrrc
  | rl => exact hrl
  | rr => exact hrr
  | sla => exact hsla
  | sra => exact hsra
  | swap => exact hswap
  | srl => exact hsrl

/-- The bit shifted out does not depend on the carry. -/
theorem sh_out (op : ShiftOp) (x : Byte) (c : Bool) : (sh op x c).2 = shiftedOut op x := by cases op <;> rfl

theorem rotatesA_putReg (op : ShiftOp) (s : State) :
    RotatesA op s (s.putReg .a (rotateAOut op s.a (Flags.c s.f))) := by
  obtain ⟨hres, hflags, honly⟩ := putReg_effect .a (rotateAOut op s.a (Flags.c s.f)) [] s
  exact ⟨(congrArg BitVec.toNat hres).trans (toNat_sh op s.a _), sh_out op s.a (Flags.c s.f) ▸ hflags, honly⟩

theorem shiftsReg_putReg (op : ShiftOp) (r : Reg8) (s : State) :
    ShiftsReg op r s (s.putReg r (shiftOut op (s.reg r) (Flags.c s.f))) := by
  obtain ⟨hres, hflags, honly⟩ := putReg_effect r (shiftOut op (s.reg r) (Flags.c s.f)) [] s
  rw [State.afterAll_nil] at hres hflags honly
  refine ⟨(congrArg BitVec.toNat hres).trans (toNat_sh op _ _), ?_, honly⟩
  rwa [hres, ← sh_out op (s.reg r) (Flags.c s.f)]

theorem shiftsMem_putAtHL (op : ShiftOp) (s : State) :
    ShiftsMem op s (s.afterHL.putAtHL (shiftOut op s.atHL (Flags.c s.f))) := by
  obtain ⟨hrewrites, hflags⟩ := putAtHL_effect (shiftOut op s.atHL (Flags.c s.f)) s
  exact ⟨_, toNat_sh op _ _, hrewrites, sh_out op s.atHL (Flags.c s.f) ▸ hflags⟩

/-! ### The rows of each shift: their opcode bytes and their meaning -/

/-- The row of a shift of a register. -/
def ShiftOp.rowR8 : ShiftOp → Reg8 → Instr
  | .rlc => Form.rlcR8 | .rrc => Form.rrcR8 | .rl => Form.rlR8 | .rr => Form.rrR8
  | .sla => Form.slaR8 | .sra => Form.sraR8 | .swap => Form.swapR8 | .srl => Form.srlR8

/-- The row of a shift of memory at HL. -/
def ShiftOp.rowAtHL : ShiftOp → Instr
  | .rlc => .rlcAtHL | .rrc => .rrcAtHL | .rl => .rlAtHL | .rr => .rrAtHL
  | .sla => .slaAtHL | .sra => .sraAtHL | .swap => .swapAtHL | .srl => .srlAtHL

/-- The first opcode byte of a shift's rows, after the prefix. -/
def ShiftOp.opcode : ShiftOp → Byte
  | .rlc => 0x00 | .rrc => 0x08 | .rl => 0x10 | .rr => 0x18 | .sla => 0x20 | .sra => 0x28 | .swap => 0x30 | .srl => 0x38

theorem encode_shiftRowR8 (op : ShiftOp) (r : Reg8) : encode (op.rowR8 r) = [0xCB, op.opcode + code8 r] := by
  cases op <;> cases r <;> rfl

theorem exec_shiftRowR8 (op : ShiftOp) (r : Reg8) (s : State) : exec (op.rowR8 r) s = shiftR8 op r s := by
  cases op <;> cases r <;> rfl

theorem encode_shiftRowAtHL (op : ShiftOp) : encode op.rowAtHL = [0xCB, op.opcode + 6] := by cases op <;> rfl

theorem exec_shiftRowAtHL (op : ShiftOp) (s : State) : exec op.rowAtHL s = shiftAtHL op s := by cases op <;> rfl

theorem runs_shiftRowR8 (op : ShiftOp) (r : Reg8) (s : State) :
    Runs (op.rowR8 r) [0xCB, op.opcode + code8 r] s (ShiftsReg op r s) :=
  ⟨encode_shiftRowR8 op r, _, exec_shiftRowR8 op r s, shiftsReg_putReg op r s⟩

theorem runs_shiftRowAtHL (op : ShiftOp) (s : State) :
    Runs op.rowAtHL [0xCB, op.opcode + 6] s (ShiftsMem op s) :=
  ⟨encode_shiftRowAtHL op, _, exec_shiftRowAtHL op s, shiftsMem_putAtHL op s⟩

/-! ## Single bits (R261 to R266) -/

/-- The field code of a bit operand is its bit number. -/
theorem toNat_codeBit (u : Bit3) : (codeBit u).toNat = u.index := by cases u <;> rfl

/-- A byte read at HL, and a byte stored there, with F as it was (20_memory.md R58). -/
theorem rewrites_memWrite (v : Byte) (s : State) :
    Rewrites v s (s.afterHL.memWrite s.hl v) ∧ (s.afterHL.memWrite s.hl v).f = s.f := by
  obtain ⟨hregs, hf, hsp, hpc⟩ := Keeps.frame (but := []) (keeps_afterRead_memWrite s s.hl s.hl v)
  exact ⟨⟨store1_of_reads_memWrite rfl rfl rfl, hregs, hsp, hpc, (plain_memWrite_afterHL s s.hl v).control⟩, hf⟩

/-! ### The rows of each form: their opcode bytes and their meaning -/

theorem encode_bitU3R8 (u : Bit3) (r : Reg8) :
    encode (Form.bitU3R8 u r) = [0xCB, 0x40 + 8 * codeBit u + code8 r] := by cases u <;> cases r <;> rfl

theorem exec_bitU3R8 (u : Bit3) (r : Reg8) (s : State) : exec (Form.bitU3R8 u r) s = bitR8 u r s := by
  cases u <;> cases r <;> rfl

theorem encode_bitU3AtHL (u : Bit3) : encode (Form.bitU3AtHL u) = [0xCB, 0x46 + 8 * codeBit u] := by cases u <;> rfl

theorem exec_bitU3AtHL (u : Bit3) (s : State) : exec (Form.bitU3AtHL u) s = bitAtHL u s := by cases u <;> rfl

theorem encode_resU3R8 (u : Bit3) (r : Reg8) :
    encode (Form.resU3R8 u r) = [0xCB, 0x80 + 8 * codeBit u + code8 r] := by cases u <;> cases r <;> rfl

theorem exec_resU3R8 (u : Bit3) (r : Reg8) (s : State) : exec (Form.resU3R8 u r) s = resR8 u r s := by
  cases u <;> cases r <;> rfl

theorem encode_resU3AtHL (u : Bit3) : encode (Form.resU3AtHL u) = [0xCB, 0x86 + 8 * codeBit u] := by cases u <;> rfl

theorem exec_resU3AtHL (u : Bit3) (s : State) : exec (Form.resU3AtHL u) s = resAtHL u s := by cases u <;> rfl

theorem encode_setU3R8 (u : Bit3) (r : Reg8) :
    encode (Form.setU3R8 u r) = [0xCB, 0xC0 + 8 * codeBit u + code8 r] := by cases u <;> cases r <;> rfl

theorem exec_setU3R8 (u : Bit3) (r : Reg8) (s : State) : exec (Form.setU3R8 u r) s = setR8 u r s := by
  cases u <;> cases r <;> rfl

theorem encode_setU3AtHL (u : Bit3) : encode (Form.setU3AtHL u) = [0xCB, 0xC6 + 8 * codeBit u] := by cases u <;> rfl

theorem exec_setU3AtHL (u : Bit3) (s : State) : exec (Form.setU3AtHL u) s = setAtHL u s := by cases u <;> rfl

/-! ## The obligations -/

/-- Settles O25: each is `rotateA` with its operation of the shift table. -/
theorem rotateAccumulator : Obligations.RotateAccumulator := fun s =>
  ⟨⟨rfl, _, rfl, rotatesA_putReg .rlc s⟩, ⟨rfl, _, rfl, rotatesA_putReg .rrc s⟩,
    ⟨rfl, _, rfl, rotatesA_putReg .rl s⟩, ⟨rfl, _, rfl, rotatesA_putReg .rr s⟩⟩

/-- Settles O26: the eight operations over a register. -/
theorem shiftRegister : Obligations.ShiftRegister := fun r s =>
  ⟨runs_shiftRowR8 .rlc r s, runs_shiftRowR8 .rrc r s, runs_shiftRowR8 .rl r s, runs_shiftRowR8 .rr r s,
    runs_shiftRowR8 .sla r s, runs_shiftRowR8 .sra r s, runs_shiftRowR8 .swap r s, runs_shiftRowR8 .srl r s⟩

/-- Settles O27: the eight operations over memory at HL. -/
theorem shiftMemory : Obligations.ShiftMemory := fun s =>
  ⟨runs_shiftRowAtHL .rlc s, runs_shiftRowAtHL .rrc s, runs_shiftRowAtHL .rl s, runs_shiftRowAtHL .rr s,
    runs_shiftRowAtHL .sla s, runs_shiftRowAtHL .sra s, runs_shiftRowAtHL .swap s, runs_shiftRowAtHL .srl s⟩

/-- Settles O28: each is a write of the flags, for [HL] after the read. -/
theorem testBit : Obligations.TestBit := fun u r s => by
  rw [toNat_codeBit]
  exact ⟨⟨encode_bitU3R8 u r, _, exec_bitU3R8 u r s, setFlags_effect _ false true (Flags.c s.f) [] s⟩,
    ⟨encode_bitU3AtHL u, _, exec_bitU3AtHL u s, setFlags_effect _ false true (Flags.c s.f) [s.hl] s⟩⟩

/-- Settles O29: each is a load of the register with the byte that `clearBit` or `setBit` makes of it. -/
theorem clearAndSetBitOfRegister : Obligations.ClearAndSetBitOfRegister := fun u r s => by
  rw [toNat_codeBit]
  constructor
  · obtain ⟨hreg, honly⟩ := loads_setReg r (clearBit u (s.reg r)) s
    exact ⟨encode_resU3R8 u r, _, exec_resU3R8 u r s, fun k => by rw [hreg, getLsbD_clearBit], honly⟩
  · obtain ⟨hreg, honly⟩ := loads_setReg r (setBit u (s.reg r)) s
    exact ⟨encode_setU3R8 u r, _, exec_setU3R8 u r s, fun k => by rw [hreg, getLsbD_setBit], honly⟩

/-- Settles O30: each rewrites memory at HL with the byte that `clearBit` or `setBit` makes of it. -/
theorem clearAndSetBitOfMemory : Obligations.ClearAndSetBitOfMemory := fun u s => by
  rw [toNat_codeBit]
  exact ⟨⟨encode_resU3AtHL u, _, exec_resU3AtHL u s, _, getLsbD_clearBit u s.atHL, rewrites_memWrite _ s⟩,
    ⟨encode_setU3AtHL u, _, exec_setU3AtHL u s, _, getLsbD_setBit u s.atHL, rewrites_memWrite _ s⟩⟩

end Sys2Proof.Machine
end

section
/-! PROOFS of the family 46_control.md: the jumps, calls and returns, each with its conditional rows, `RETI` and `RST`
(R270 to R280). Before them, a condition as the bits of F say it, and what a transfer leaves besides PC and SP. -/

namespace Sys2Proof.Machine

open Claims

/-! ## Conditions (10_state.md R27) -/

/-- A condition is computed as the bits of F say it. -/
theorem State.cond_iff_holds (s : State) (cc : Cond) : s.cond cc = true ↔ holds cc s := by
  cases cc with
  | nz => exact iff_of_eq (Bool.not_eq_true' _)
  | z => exact Iff.rfl
  | nc => exact iff_of_eq (Bool.not_eq_true' _)
  | c => exact Iff.rfl

/-- A row whose meaning tests a condition: its transfer where the condition holds, else nothing. -/
theorem runs_ifHolds {i : Instr} {bytes : List Byte} {cc : Cond} {post : State → State → Prop} {s t : State}
    (hb : encode i = bytes) (he : exec i s = .next (if s.cond cc then t else s)) (ht : post s t) :
    Runs i bytes s (IfHolds cc post s) := by
  refine ⟨hb, _, he, fun htaken => ?_, fun hnot => ?_⟩
  · rwa [if_pos ((s.cond_iff_holds cc).mpr htaken)]
  · exact if_neg (mt (s.cond_iff_holds cc).mp hnot)

/-! ## Transfers -/

/-- A plain change that writes PC and SP at most. -/
theorem onlyPcSp_of_keeps {s t : State} {ws : List RegName} (hk : Keeps s t ws) (hws : ws ⊆ [.sp, .pc])
    (hp : Plain s t) : OnlyPcSp s t := by
  have frame : Keeps s t [.sp, .pc] := hk.mono hws
  exact ⟨frame.regs (by decide), setWidth16_injective (frame .f (by decide)), hp.control⟩

theorem jumps_setPC (v : Word) (s : State) : Jumps v s { s with pc := v } :=
  ⟨rfl, rfl, onlyPcSp_of_keeps (keeps_setPC s v) (by decide) (plain_setPc s v), noStore_of_reads rfl rfl rfl⟩

/-- A call's stores and its SP are those of its push. -/
theorem calls_call (v : Word) (s : State) : Calls v s (s.call v) := by
  obtain ⟨hstores, hsp, -, -⟩ := push16_effect s.pc s
  exact ⟨rfl, hsp, hstores, onlyPcSp_of_keeps (keeps_call s v) (List.Subset.refl _) (plain_call s v)⟩

/-- A return's PC and its SP are those of its pop. -/
theorem returns_popPC (s : State) : Returns s s.popPC :=
  ⟨s.pop16_value, s.pop16_sp, onlyPcSp_of_keeps (keeps_popPC s) (List.Subset.refl _) (plain_popPC s),
    noStore_of_reads rfl rfl rfl⟩

/-! ## The rows of each form: their opcode bytes and their meaning -/

theorem encode_jpCcN16 (cc : Cond) (n : Word) :
    encode (Form.jpCcN16 cc n) = [0xC2 + 8 * codeCond cc, lo n, hi n] := by cases cc <;> rfl

theorem exec_jpCcN16 (cc : Cond) (n : Word) (s : State) : exec (Form.jpCcN16 cc n) s = jpCc cc n s := by
  cases cc <;> rfl

/-- An `e8` operand is encoded as its raw byte (30_encoding.md R92). -/
theorem encode_jrE8 (k : Byte) : encode (.jrE8 (k.signExtend 16)) = [0x18, k] :=
  congrArg ([0x18, ·]) (lo_signExtend k)

theorem encode_jrCcE8 (cc : Cond) (k : Byte) :
    encode (Form.jrCcE8 cc (k.signExtend 16)) = [0x20 + 8 * codeCond cc, k] := by
  have row (e : Word) : encode (Form.jrCcE8 cc e) = [0x20 + 8 * codeCond cc, lo e] := by cases cc <;> rfl
  rw [row, lo_signExtend]

theorem exec_jrCcE8 (cc : Cond) (e : Word) (s : State) : exec (Form.jrCcE8 cc e) s = jrCc cc e s := by
  cases cc <;> rfl

theorem encode_callCcN16 (cc : Cond) (n : Word) :
    encode (Form.callCcN16 cc n) = [0xC4 + 8 * codeCond cc, lo n, hi n] := by cases cc <;> rfl

theorem exec_callCcN16 (cc : Cond) (n : Word) (s : State) : exec (Form.callCcN16 cc n) s = callCc cc n s := by
  cases cc <;> rfl

theorem encode_retCc (cc : Cond) : encode (Form.retCc cc) = [0xC0 + 8 * codeCond cc] := by cases cc <;> rfl

theorem exec_retCc (cc : Cond) (s : State) : exec (Form.retCc cc) s = retCc cc s := by cases cc <;> rfl

theorem encode_rstVec (v : Rst) : encode (Form.rstVec v) = [0xC7 + 8 * codeRst v] := by cases v <;> rfl

theorem exec_rstVec (v : Rst) (s : State) : exec (Form.rstVec v) s = rstVec v s := by cases v <;> rfl

/-- The address of a restart is `8 * ttt` (R280). -/
theorem Rst.address_eq (v : Rst) : v.address = 8 * (codeRst v).setWidth 16 := by cases v <;> rfl

/-! ## The obligations -/

/-- Settles O31: each is one write of PC, for `JP cc` under its condition. -/
theorem jumpAbsolute : Obligations.JumpAbsolute := fun cc n s =>
  ⟨⟨rfl, _, rfl, jumps_setPC n s⟩,
    runs_ifHolds (encode_jpCcN16 cc n) (exec_jpCcN16 cc n s) (jumps_setPC n s),
    ⟨rfl, _, rfl, jumps_setPC s.hl s⟩⟩

/-- Settles O32: each is one write of PC with the wrapping sum, for `JR cc` under its condition. -/
theorem jumpRelative : Obligations.JumpRelative := fun cc k s =>
  have jump := jumps_setPC (s.pc + k.signExtend 16) s
  ⟨⟨encode_jrE8 k, _, rfl, jump⟩, runs_ifHolds (encode_jrCcE8 cc k) (exec_jrCcE8 cc _ s) jump⟩

/-- Settles O33: each is a push of PC and then a write of PC, for `CALL cc` under its condition. -/
theorem callSubroutine : Obligations.CallSubroutine := fun cc n s =>
  ⟨⟨rfl, _, rfl, calls_call n s⟩, runs_ifHolds (encode_callCcN16 cc n) (exec_callCcN16 cc n s) (calls_call n s)⟩

/-- Settles O34: each is a pop of PC, for `RET cc` under its condition. -/
theorem returnFromSubroutine : Obligations.ReturnFromSubroutine := fun cc s =>
  ⟨⟨rfl, _, rfl, returns_popPC s⟩, runs_ifHolds (encode_retCc cc) (exec_retCc cc s) (returns_popPC s)⟩

/-- Settles O35: a return that sets IME as well. -/
theorem returnFromInterrupt : Obligations.ReturnFromInterrupt := fun s => by
  obtain ⟨hpc, hsp, ⟨hregs, hf, -, hpending, hbug, hmode, hresult, henv, hcfg⟩, hmem⟩ := returns_popPC s
  exact ⟨rfl, _, rfl, hpc, hsp, rfl, hregs, hf, hpending, hbug, hmode, hresult, henv, hcfg, hmem⟩

/-- Settles O36: a call of the restart's address. -/
theorem restart : Obligations.Restart := fun v s => by
  rw [← Rst.address_eq]
  exact ⟨encode_rstVec v, _, exec_rstVec v s, calls_call v.address s⟩

end Sys2Proof.Machine
end

section
/-! PROOFS of the family 47_system.md: `NOP`, `DI`, `HALT`, `STOP` and `EI` (R300 to R304). Before them, `HALT` as its
condition decides it, in the words of the statements. -/

namespace Sys2Proof.Machine

open Claims

/-! ## `HALT` on either side of its condition (R302) -/

/-- The test that `HALT` computes is the conjunction of its three parts. -/
theorem exec_halt (s : State) :
    exec .halt s = .next (if s.ime = false ∧ s.pending ≠ 0 ∧ s.cfg.haltBug = true then { s with haltBug := true }
      else { s with mode := .halted }) := by
  have test : (!s.ime && s.pending != 0 && s.cfg.haltBug) = true ↔
      s.ime = false ∧ s.pending ≠ 0 ∧ s.cfg.haltBug = true := by simp [and_assoc]
  change execHalt s = _
  rw [execHalt, if_congr test rfl rfl, apply_ite Host.Outcome.next]

/-! ## The obligations -/

/-- Settles O37: each is one record update, for `NOP` none. -/
theorem nopDisableEnable : Obligations.NopDisableEnable := fun _ =>
  ⟨⟨rfl, _, rfl, rfl⟩, ⟨rfl, _, rfl, rfl⟩, ⟨rfl, _, rfl, rfl⟩⟩

/-- Settles O38: `exec_halt` on each side of the condition; the statement writes out `State.pending`. -/
theorem haltOrHaltBug : Obligations.HaltOrHaltBug := fun s =>
  ⟨rfl, _, exec_halt s, fun bug => if_pos bug, fun noBug => if_neg noBug⟩

/-- Settles O39: the operand byte stands in the encoding only. -/
theorem stopIgnoresItsByte : Obligations.StopIgnoresItsByte := fun _ _ => ⟨rfl, _, rfl, rfl⟩

end Sys2Proof.Machine
end

section
/-! PROOFS of the family 60_exceptions.md: the one fault (R320), what the environment may do (R331, R333), interrupt
entry (R323 to R327), and that none is taken under `halt_bug` (R328). -/

namespace Sys2Proof.Laws

open Claims

/-! ## The bytes that do not decode (R320; 30_encoding.md R99, R101) -/

/-- A table slot is empty exactly where no definition of the catalog claims the byte. -/
theorem lookup_eq_none_iff {sp : Space} {op : Byte} :
    lookup sp op = none ↔ (catalog.filter (fun d => d.space == sp && d.claims op)).length = 0 := by
  rw [lookup, List.find?_eq_none, List.length_eq_zero_iff, List.filter_eq_nil_iff, catalog, List.forall_mem_map]

/-- The empty slots of the primary space are 0xCB and the eleven unclaimed bytes. -/
theorem lookup_primary_eq_none_iff {op : Byte} : lookup .primary op = none ↔ op = prefixByte ∨ op ∈ unclaimed := by
  rw [lookup_eq_none_iff, (length_filter_claims op).1, ite_eq_left_iff, imp_iff_not Nat.one_ne_zero, not_not]
  rfl

/-- No slot of the extended space is empty (R267). -/
theorem lookup_extended_ne_none (op : Byte) : lookup .extended op ≠ none := by
  rw [Ne, lookup_eq_none_iff, (length_filter_claims op).2]
  exact Nat.one_ne_zero

/-- Two bytes are enough for the operands of every definition, and one of the extended space has none. -/
theorem exists_readOperands {sp : Space} {op : Byte} {d : Handle} {bs : List Byte} (hl : lookup sp op = some d)
    (hbs : sp = .primary → 2 ≤ bs.length) : ∃ r, readOperands d.definition.appended bs = some r := by
  have hkinds := appended_kinds sp d (List.mem_of_find?_eq_some (find_page sp op ▸ hl))
  cases sp with
  | extended => rw [List.mem_singleton.mp hkinds]; exact ⟨_, rfl⟩
  | primary =>
    simp only [List.mem_cons, List.not_mem_nil, or_false] at hkinds
    match bs, hbs rfl with
    | x :: y :: rest, _ => rcases hkinds with hk | hk | hk | hk <;> rw [hk] <;> exact ⟨_, rfl⟩

/-- A claimed opcode byte decodes, with bytes enough for its operands: some row has it, and the table slot builds that
row. -/
theorem decodeIn_ok_of_lookup {sp : Space} {op : Byte} {d : Handle} {bs : List Byte} (hl : lookup sp op = some d)
    (hbs : sp = .primary → 2 ≤ bs.length) : ∃ r, decodeIn sp op bs = .ok r := by
  obtain ⟨⟨os, rest⟩, hr⟩ := exists_readOperands hl hbs
  obtain ⟨hkinds, -, -⟩ := of_readOperands hr
  obtain ⟨i, hi⟩ := exists_encoding hl hkinds
  obtain ⟨d', hl', hb, -, -⟩ := claimed_all i
  rw [hi] at hl' hb
  cases hl.symm.trans hl'
  exact ⟨(i, rest), by simp only [decodeIn, hl, hr, hb]⟩

/-- The decoder of a space answers an error for an empty slot only, and names the slot. -/
theorem decodeIn_eq_error_iff {sp : Space} {op : Byte} {bs : List Byte} {u : Unimplemented}
    (hbs : sp = .primary → 2 ≤ bs.length) :
    decodeIn sp op bs = .error u ↔ lookup sp op = none ∧ u = ⟨sp, op⟩ := by
  cases hl : lookup sp op with
  | none => simp [decodeIn, hl, eq_comm]
  | some d =>
    obtain ⟨r, hr⟩ := decodeIn_ok_of_lookup hl hbs
    simp [hr]

/-- Mapping the answer leaves an error as it is. -/
theorem map_eq_error_iff {ε α β : Type} {x : Except ε α} {f : α → β} {e : ε} : x.map f = .error e ↔ x = .error e := by
  cases x <;> simp [Except.map]

/-- Three bytes decode to an error exactly where the first is one of the eleven, which the error names. -/
theorem decodeWindow_eq_error_iff {b0 b1 b2 : Byte} {u : Unimplemented} :
    decodeWindow b0 b1 b2 = .error u ↔ b0 ∈ unclaimed ∧ u = ⟨.primary, b0⟩ := by
  rw [decodeWindow_eq_map, map_eq_error_iff]
  by_cases hb : b0 = prefixByte
  · rw [if_pos hb, decodeIn_eq_error_iff (by simp), hb]
    have not_among : prefixByte ∉ unclaimed := by decide
    simp only [lookup_extended_ne_none, not_among, false_and]
  · rw [if_neg hb, decodeIn_eq_error_iff (by simp), lookup_primary_eq_none_iff, or_iff_right hb]

end Sys2Proof.Laws

namespace Sys2Proof.Machine

open Claims

/-- The instruction phase's decode fails exactly on the eleven bytes, read at PC (30_encoding.md R101). -/
theorem State.decodeNext_eq_error_iff {s : State} {u : Unimplemented} :
    s.decodeNext = .error u ↔ s.readByte s.pc ∈ unclaimed ∧ u = ⟨.primary, s.readByte s.pc⟩ :=
  Laws.decodeWindow_eq_error_iff

/-- Settles O47: the one fault of a step is that of its decode, which the byte at PC alone decides. -/
theorem faultsExactlyOnUnclaimedBytes : Obligations.FaultsExactlyOnUnclaimedBytes := by
  intro s flt
  have noIrq : (atStart s).irqToTake = none ↔ NoIrq (atStart s) := State.irqToTake_eq_none_iff _
  rw [step_fault_iff, ← noIrq]
  constructor
  · rintro ⟨hm, hk, u, hd, hflt⟩
    obtain ⟨hbyte, rfl⟩ := State.decodeNext_eq_error_iff.mp hd
    exact ⟨hm, hk, hbyte, hflt⟩
  · rintro ⟨hm, hk, hbyte, hflt⟩
    exact ⟨hm, hk, _, State.decodeNext_eq_error_iff.mpr ⟨hbyte, rfl⟩, hflt⟩

/-! ## The environment (R331, R333) -/

/-- What an action does: one write to IF, where it has bits to set, and a Stopped core running, where it says so. -/
theorem State.applyEnv_cons (s : State) (act : EnvAction) (rest : List EnvAction) :
    ({ s with env := act :: rest } : State).applyEnv = { s with
      m := if act.irq = 0 then s.m else (bus s).write s.m ifAddr (s.peek ifAddr ||| act.irq.setWidth 8)
      mode := if act.wake = true ∧ s.mode = .stopped then .running else s.mode
      env := rest } := by
  have irq : (act.irq == 0) = true ↔ act.irq = 0 := beq_iff_eq
  have wake : (act.wake && s.mode == .stopped) = true ↔ act.wake = true ∧ s.mode = .stopped := by simp
  rw [← if_congr irq rfl rfl, ← if_congr wake rfl rfl]
  rfl

/-- The environment writes no register. -/
theorem keeps_applyEnv (s : State) : Keeps s s.applyEnv [] := by
  rintro ⟨⟩ - <;> simp [State.named, State.af, State.bc, State.de, State.hl]

/-- Settles O48: the equation of an action gives its one write and the mode it leaves, and `applyEnv_peek_flat` says
what that write is byte by byte. -/
theorem environmentOnlyRequestsAndWakes : Obligations.EnvironmentOnlyRequestsAndWakes := by
  intro s act rest t
  have ht : t = _ := s.applyEnv_cons act rest
  obtain ⟨hregs, hf, hsp, hpc⟩ : Regs [] s t ∧ t.f = s.f ∧ t.sp = s.sp ∧ t.pc = s.pc :=
    Keeps.frame (but := []) (keeps_applyEnv _)
  refine ⟨rfl, rfl, congrArg State.m ht, fun h => ?_, congrArg State.mode ht, hregs, hf, hsp, hpc, rfl, rfl, rfl, rfl,
    rfl, rfl⟩
  have bytes (x : Word) : t.peek x = if x = ifAddr then s.peek ifAddr ||| act.irq.setWidth 8 else s.peek x :=
    State.applyEnv_peek_flat { s with env := act :: rest } h rfl x
  exact ⟨(bytes _).trans (if_pos rfl), fun x hx => (bytes x).trans (if_neg hx)⟩

/-! ## Interrupt entry (R323 to R327) -/

/-- The interrupt a step takes: dispatch is on, IME is set, and it is the pending one with the lowest bit. -/
theorem State.irqToTake_eq_some_iff {s : State} {k : Irq} : s.irqToTake = some k ↔
    s.cfg.irqDispatch = true ∧ s.ime = true ∧ s.pending.getLsbD k.bit = true ∧
      ∀ j, j < k.bit → s.pending.getLsbD j = false := by
  rw [State.irqToTake, Option.ite_none_right_eq_some, firstIrq_eq_some_iff, Bool.and_eq_true, and_assoc]

/-- Behind the flat Bus, what peek shows after a push: its second byte is stored last. -/
theorem State.peek_push16_flat {s : State} (h : Flat s) (v x : Word) : (s.push16 v).peek x =
    if x = s.sp - 2 then lo v else if x = s.sp - 1 then hi v else s.peek x := by
  obtain ⟨⟨-, -, hbytes⟩, -⟩ := push16_effect v s
  obtain ⟨hhigh, hlow, hother, -⟩ := hbytes h
  split
  · rename_i hx; rw [hx, hlow]
  · rename_i hx
    split
    · rename_i hx'; rw [hx', hhigh]
    · rename_i hx'; exact hother x hx' hx

/-- Behind the flat Bus, what peek shows after an interrupt is taken: a store to IF follows the push. -/
theorem State.peek_interruptEntry_flat {s : State} (h : Flat s) (k : Irq) (x : Word) : (s.interruptEntry k).peek x =
    if x = ifAddr then (s.push16 s.pc).peek ifAddr &&& ~~~((1 : Byte) <<< k.bit) else (s.push16 s.pc).peek x :=
  State.peek_memWrite_flat (s := s.push16 s.pc) h ifAddr _ x

/-- Settles O43: a push of PC, whose effect on memory is that of every push, and then one store more, to IF, of the byte
that is peeked after the push. -/
theorem interruptEntryEffect : Obligations.InterruptEntryEffect := by
  intro s k s₀ pending hm hdispatch hime hbit hlowest m₁ m₂ flags cleared
  have hk : s₀.irqToTake = some k := State.irqToTake_eq_some_iff.mpr ⟨hdispatch, hime, hbit, hlowest⟩
  obtain ⟨⟨hm₂, hwrites, -⟩, hsp, -, hregs, hf, -, -, hbug, hmode, -, henv, hcfg⟩ := push16_effect s₀.pc s₀
  have hflags : (s₀.push16 s₀.pc).peek 0xFF0F = flags := by rw [State.peek, hm₂]; rfl
  have hmem : (s₀.interruptEntry k).m = (bus s₀).write m₂ 0xFF0F cleared := by
    rw [State.interruptEntry_m, hm₂, ifAddr, hflags]; rfl
  have hevents : (s₀.interruptEntry k).writes = [⟨s₀.sp - 1, s₀.peek (s₀.sp - 1), hi s₀.pc⟩,
      ⟨s₀.sp - 2, (bus s₀).peek m₁ (s₀.sp - 2), lo s₀.pc⟩, ⟨0xFF0F, flags, cleared⟩] := by
    rw [State.interruptEntry_writes, hwrites, ifAddr, hflags]; rfl
  refine ⟨_, coreStep_taken hm hk, rfl, rfl, hsp, rfl, rfl, hmem, hevents, fun h => ?_, hregs, hf, hmode.trans hm, hbug,
    henv, hcfg⟩
  have bytes (x : Word) := State.peek_push16_flat h s₀.pc x
  have entry (x : Word) := State.peek_interruptEntry_flat h k x
  rw [ifAddr, hflags] at entry
  refine ⟨hflags.symm.trans (bytes _), ?_, (entry _).trans (if_pos rfl), fun x hx => ?_⟩
  · have apart : s₀.sp - 2 ≠ s₀.sp - 1 := by simp
    exact (State.peek_memWrite_flat h _ _ _).trans (if_neg apart)
  · exact ((entry x).trans (if_neg hx)).trans (bytes x)

/-! ## No interrupt under `halt_bug` (R328) -/

/-- Every reachable state meets the invariant. -/
theorem State.Reachable.inv {s : State} (h : s.Reachable) : s.Inv := by
  induction h with
  | loaded p cfg mem0 env hp hm => exact State.loadRom_inv hp cfg hm env
  | stepped _ hs ih => exact stepKeepsInvariant _ _ ih hs

/-- A running core with IME clear executes: it takes no interrupt. -/
theorem StepCase.executed_of_ime_false {s₀ t : State} (h : StepCase s₀ t) (hrun : s₀.mode = .running)
    (hime : s₀.ime = false) : t.result = some .executed := by
  cases h with
  | stopped hm | halted hm | woken hm => exact absurd (hrun.symm.trans hm) (by decide)
  | dispatched k _ hk => exact absurd (hime.symm.trans (State.ime_of_irqToTake hk)) (by decide)
  | executed i n m _ _ _ _ he =>
    obtain ⟨-, -, hresult⟩ := he.cfg_env_result
    exact hresult

/-- Settles O56: the invariant allows `halt_bug` in a running core with IME clear only, and the environment keeps it. -/
theorem noInterruptUnderHaltBug : Obligations.NoInterruptUnderHaltBug := by
  intro s t hreach hbug h
  obtain ⟨hrun, hime, -⟩ := hreach.inv.applyEnv.haltBugRuns (s.applyEnv_haltBug.trans hbug)
  exact (step_cases h).executed_of_ime_false hrun hime

end Sys2Proof.Machine
end

section
/-! PROOFS of the family 70_reset_and_hazards.md: what LoadRom leaves (R360 to R362; 60_exceptions.md R347). -/

namespace Sys2Proof.Machine

/-- Bits 3..0 of F are clear in every row of the default table, and for the models that it leaves out. -/
theorem defaultResetRegs_f_low (model : ConsoleModel) (checksum : Byte) :
    (defaultResetRegs model checksum).f &&& 0x0F = 0 := by
  have byChecksum : (if checksum == 0 then 0x80 else 0xB0 : Byte) &&& 0x0F = 0 := by split <;> rfl
  cases model with
  | dmg | mgb => exact byChecksum
  | sgb | sgb2 | cgb => simp [defaultResetRegs]
  | other n => exact (BitVec.and_assoc _ _ _).trans BitVec.and_zero

/-- An image that ROM_VALID turns away changes nothing, and the reason is reported (60_exceptions.md R347). -/
theorem Wrapper.loadRom_invalid {h : Wrapper} {p : Launch} {bytes : List Byte} {model : ConsoleModel} {mem0 : BusState}
    {why : LoadFailure} (hwhy : p.romFailure bytes model = some why) :
    h.loadRom p bytes model mem0 = (h, .loadFailed why) := by
  rw [Wrapper.loadRom, hwhy]

/-- A valid one resets the core and leaves the host Paused. -/
theorem Wrapper.loadRom_valid {h : Wrapper} {p : Launch} {bytes : List Byte} {model : ConsoleModel} {mem0 : BusState}
    (hvalid : p.romFailure bytes model = none) : h.loadRom p bytes model mem0 =
      ({ h with core := State.loadRom p { h.core.cfg with model := model } mem0 h.core.env, execMode := .paused },
        .loaded) := by
  rw [Wrapper.loadRom, hvalid]

/-- Settles O42: LoadRom writes each register and fixed value as such; the default table is read off row by row, and a
launch has the two outcomes of ROM_VALID. -/
theorem resetLeavesTheHandOverState : Obligations.ResetLeavesTheHandOverState := by
  refine ⟨fun p cfg mem0 env => ⟨rfl, rfl, rfl, rfl, rfl, rfl, rfl, rfl⟩, fun checksum => ?_,
    fun h p bytes model mem0 => ?_, rfl⟩
  · have byChecksum : (if checksum == 0 then 0x80 else 0xB0 : Byte) = if checksum = 0 then 0x80 else 0xB0 :=
      if_congr beq_iff_eq rfl rfl
    rw [← byChecksum]
    exact ⟨rfl, rfl, rfl, rfl, rfl, defaultResetRegs_f_low⟩
  · refine ⟨fun why hwhy => Wrapper.loadRom_invalid hwhy, fun hvalid => ?_⟩
    rw [Wrapper.loadRom_valid hvalid]
    exact ⟨rfl, rfl, _, _, rfl, rfl⟩

end Sys2Proof.Machine
end
